-- ==== Sys2Proof/Word.lean ====
section
/-! DEFINITION. The byte, the unit of every line and buffer of the link end (00_scope R12), and the
constants of the hardware that are no parameter (00_scope R6, R7). -/

namespace Sys2Proof

/-- A byte is an unsigned 8-bit value (R12). -/
abbrev Byte := BitVec 8

/-- `HDR_SIZE = 2`, the routing header's size (R6). -/
abbrev hdrSize : Nat := 2

/-- `START = 0xFF`, the start delimiter (R7, R71). -/
abbrev startByte : Byte := 0xFF

end Sys2Proof
end

