-- ==== Sys2Proof/Syntax.lean ====
section
/-! DEFINITION. The instructions: one constructor per row of the opcode table, the codes they are read
from, and the plain data they and the state are made of (packets, frame records, parameters, turns). -/

namespace Sys2Proof

/-! ## Parameters (00_scope R5, R8-R11) -/

/-- `ERR_POLICY` (R10): what a receive error does. -/
inductive ErrPolicy where
  /-- the reference behaviour: enter the fault state -/
  | fatal
  /-- drop the frame and hunt for the next start -/
  | dropResync
  deriving DecidableEq, Repr, Inhabited

/-- The configuration of R36 with the legal range of each parameter (R5, R8, R9), carried by the type. -/
structure Params where
  mtu : Nat
  txqDepth : Nat
  rxqDepth : Nat
  startupInterval : Nat
  errPolicy : ErrPolicy
  mtu_ge : hdrSize ≤ mtu
  mtu_le : mtu ≤ 255
  txqDepth_pos : 1 ≤ txqDepth
  rxqDepth_pos : 1 ≤ rxqDepth
  startupInterval_pos : 1 ≤ startupInterval
  deriving DecidableEq, Repr

/-! ## Packets and frame records (10_state R32, R33; 40_codec) -/

/-- The routing header's fields (R75). -/
structure Route where
  dst : BitVec 3
  src : BitVec 3
  last : Bool
  func : Byte
  deriving DecidableEq, Repr, Inhabited

/-- A packet record of TXQ (R32), with exactly `dlen` data bytes (93_implementation_defined #3). -/
structure Packet where
  route : Route
  dlen : Byte
  data : List Byte
  deriving DecidableEq, Repr, Inhabited

/-- A frame record of RXQ (R33), with exactly `len` payload bytes (93_implementation_defined #3). -/
structure FrameRec where
  len : Byte
  payload : List Byte
  deriving DecidableEq, Repr, Inhabited

/-- What the host TX channel presents (R79). `data` lists the lanes `tx_data[0]`, `tx_data[1]`, …;
a lane that is not listed carries an unspecified byte. -/
structure TxReq where
  dst : BitVec 4
  src : BitVec 4
  last : Bool
  func : Byte
  dlen : Byte
  data : List Byte
  deriving DecidableEq, Repr, Inhabited

/-- What the host RX channel shows (R80): ids zero-extended to 4 bits, exactly `dlen` data bytes. -/
structure RxPkt where
  dst : BitVec 4
  src : BitVec 4
  last : Bool
  func : Byte
  dlen : Byte
  data : List Byte
  deriving DecidableEq, Repr, Inhabited

/-- The SEND response code `tx_resp` (R81). -/
inductive SendResp where
  | accepted
  | dataTooLong
  | dstRange
  | srcRange
  deriving DecidableEq, Repr, Inhabited

/-! ## FSM states (10_state R21, R26, R27) -/

/-- `rx_state` (R21). Codes 5-7 are no state: a model's type has five values. -/
inductive RxState where
  | hunt
  | len
  | payload
  | cksum
  | push
  deriving DecidableEq, Repr, Inhabited

/-- `tx_state` (R26). Codes 6 and 7 are no state. -/
inductive TxState where
  | ctrl
  | suWait
  | check
  | wait1
  | gate
  | xmit
  deriving DecidableEq, Repr, Inhabited

/-- `tx_ret` (R27): the state TXF enters when the CTRL frame being emitted is complete. -/
inductive TxRet where
  | suWait
  | check
  | gate
  | xmit
  deriving DecidableEq, Repr, Inhabited

/-! ## Instructions -/

/-- One constructor per row of the opcode table. -/
inductive Instr where
  /-- `FF 00`: the control sentinel received whole (R70, R142) -/
  | ctrl
  /-- `FF L p C`: a DATA frame received whole (R70, R143, R145-R148) -/
  | data (len : Byte) (payload : List Byte) (cksum : Byte)
  /-- `FF 01`: a length error (R77, R144) -/
  | badlenShort
  /-- `FF L` with `L > MTU`: a length error (R77, R144) -/
  | badlenLong (len : Byte)
  /-- R_HUNT, byte 0xFF (R141) -/
  | rxHuntStart
  /-- R_HUNT, any other byte (R141) -/
  | rxHuntSkip (b : Byte)
  /-- R_LEN, byte 0 (R142) -/
  | rxLenCtrl
  /-- R_LEN, a legal length (R143) -/
  | rxLenData (b : Byte)
  /-- R_LEN, an illegal length (R144) -/
  | rxLenBad (b : Byte)
  /-- R_PAYLOAD (R145) -/
  | rxPayload (b : Byte)
  /-- R_CKSUM, the byte matches `rx_acc` (R146) -/
  | rxCksumOk (b : Byte)
  /-- R_CKSUM, the byte differs from `rx_acc` (R147) -/
  | rxCksumBad (b : Byte)
  /-- R_PUSH (R148) -/
  | rxPush
  /-- T_CTRL (R161) -/
  | txCtrl
  /-- T_SU_WAIT, timer running (R162) -/
  | txSuTick
  /-- T_SU_WAIT, timer at 0 (R163) -/
  | txSuSample
  /-- T_CHECK, TXQ empty (R164) -/
  | txCheckEmpty
  /-- T_CHECK, TXQ not empty (R165) -/
  | txCheckDeq
  /-- T_WAIT1 (R166) -/
  | txWait1
  /-- T_GATE (R167) -/
  | txGate
  /-- T_XMIT (R168) -/
  | txXmit
  /-- `tx_fire` of a valid packet (R192); `rxFire`: the RX channel fires in the same cycle (R78) -/
  | send (rxFire : Bool) (t : TxReq)
  /-- `tx_fire` of an invalid packet (R194); `rxFire` as for `send` -/
  | sendReject (rxFire : Bool) (t : TxReq)
  /-- `rx_fire` alone (R195) -/
  | recv
  /-- the reset input (R190, R220) -/
  | init
  deriving DecidableEq, Repr, Inhabited

/-- The words instructions are read from, one constructor per format of the opcode table. The format
is which port the word arrives at: the five formats share numbers. -/
inductive Code where
  /-- wire_frame_head: the bytes of a frame in line order (R51, R70) -/
  | wire (bytes : List Byte)
  /-- rxf_step: `(rx_state << 8) | b` (R86) -/
  | rxf (w : BitVec 11)
  /-- txf_step: `tx_state` (R87) -/
  | txf (w : BitVec 3)
  /-- host_op: `{rx_fire, tx_fire}`, with what the TX channel presents (R78, R79) -/
  | host (op : BitVec 2) (t : TxReq)
  /-- reset: `rst` (R190) -/
  | rst (w : BitVec 1)
  deriving DecidableEq, Repr, Inhabited

/-! ## Turns -/

/-- What happens next: an agent is given its turn, or the environment changes an input (R14). -/
inductive Turn where
  /-- RXF's turn -/
  | rxf
  /-- TXF's turn -/
  | txf
  /-- the host channels' turn: bit 0 lets the host sender step, bit 1 the host receiver; both: one cycle (R78) -/
  | host (who : BitVec 2)
  /-- RXF's turns over one whole frame waiting at line-in -/
  | frame
  /-- environment: bytes put in flight toward line-in -/
  | offer (bytes : List Byte)
  /-- environment: the bytes in flight become these: loss, corruption, withdrawal (93 #19, #20) -/
  | disturb (bytes : List Byte)
  /-- environment: drives `lout_ready` -/
  | lineOutReady (ready : Bool)
  /-- environment: raises `tx_valid` with a packet on the channel -/
  | present (t : TxReq)
  /-- environment: lowers `tx_valid` (R193) -/
  | withdraw
  /-- environment: drives `rx_ready` -/
  | hostReady (ready : Bool)
  /-- environment: drives `rst` -/
  | resetPin (level : Bool)
  /-- environment: drives the configuration inputs -/
  | setPins (p : Params)
  deriving DecidableEq, Repr, Inhabited

end Sys2Proof
end

