-- ==== Sys2Proof/Config.lean ====
section
/-! DEFINITION. The parameters' reference values and the free values: what the spec leaves unspecified
is an opaque constant applied to the state's step counter, so that no proof can rest on a value. -/

namespace Sys2Proof

/-- The parameters `State.reset` holds: MTU 128 (R5), depths 4 (R8), the default policy FATAL (R10).
STARTUP_INTERVAL is OPEN in the spec (R9). DESIGN CHOICE 2, unsafe, log 4. -/
def Config.reference : Params where
  mtu := 128
  txqDepth := 4
  rxqDepth := 4
  startupInterval := 2
  errPolicy := .fatal
  mtu_ge := by decide
  mtu_le := by decide
  txqDepth_pos := by decide
  rxqDepth_pos := by decide
  startupInterval_pos := by decide

/-- FREE VALUE: whose turn is next where the agenda does not say (R14, 93 #18). Safe, log 1. -/
opaque Config.freeTurn : Nat → Turn

/-- FREE VALUE: the unspecified bytes of one step, by step counter and position: `rx_buf` and `tx_buf`
after an executed reset (R220), TX lanes the operand does not list. Safe, logs 5 and 11. -/
opaque Config.freeByte : Nat → Nat → Byte

/-- FREE VALUE: the RX channel's fields while `rx_valid = 0` (R80, 93 #5). Safe, log 21. -/
opaque Config.freeRxPkt : Nat → RxPkt

end Sys2Proof
end

