-- ==== Sys2Proof/Decode.lean ====
section
/-! DEFINITION. The decoder, total on any code and rejecting by name, and after it the encoder. The
decoder follows the step-selection tables R86 and R87, the length classes R77, and the fire vector R78;
where rows share a word it reads the condition the table names from a selection context. -/

namespace Sys2Proof

/-! ## State codes (10_state R21, R26) -/

/-- The code of `rx_state` (R21). -/
def rxCode : RxState → BitVec 3
  | .hunt => 0
  | .len => 1
  | .payload => 2
  | .cksum => 3
  | .push => 4

/-- The state of an `rx_state` code; codes 5-7 are never written and are no state (R21, 93 #8). -/
def rxStateOf (w : BitVec 3) : Option RxState :=
  match w.toNat with
  | 0 => some .hunt
  | 1 => some .len
  | 2 => some .payload
  | 3 => some .cksum
  | 4 => some .push
  | _ => none

/-- The code of `tx_state` (R26). -/
def txCode : TxState → BitVec 3
  | .ctrl => 0
  | .suWait => 1
  | .check => 2
  | .wait1 => 3
  | .gate => 4
  | .xmit => 5

/-- The state of a `tx_state` code; codes 6 and 7 are no state (R26, 93 #10). -/
def txStateOf (w : BitVec 3) : Option TxState :=
  match w.toNat with
  | 0 => some .ctrl
  | 1 => some .suWait
  | 2 => some .check
  | 3 => some .wait1
  | 4 => some .gate
  | 5 => some .xmit
  | _ => none

/-- The word of an RXF step: `(rx_state << 8) | b` (R86, the opcode table's note). -/
def rxfWord (st : BitVec 3) (b : Byte) : BitVec 11 := st ++ b

/-! ## Conditions of the selection tables -/

/-- The length class DATA: `HDR_SIZE <= L <= MTU` (R77). -/
def legalLen (mtu : Nat) (b : Byte) : Bool := decide (hdrSize ≤ b.toNat) && decide (b.toNat ≤ mtu)

/-- SEND_CHECK (R191): the first failing check, in this order, gives the code. -/
def sendCheck (mtu : Nat) (t : TxReq) : SendResp :=
  if t.dlen.toNat > mtu - hdrSize then .dataTooLong
  else if t.dst.toNat > 7 then .dstRange
  else if t.src.toNat > 7 then .srcRange
  else .accepted

/-- What the conditions of R77, R86, R87 and R191 read beside the word. -/
structure Ctx where
  mtu : Nat
  rxAcc : Byte
  timerZero : Bool
  txqEmpty : Bool
  deriving DecidableEq, Repr

/-- Why a code is no instruction. -/
inductive DecodeError where
  /-- the first byte at the line is not 0xFF: inter-frame fill (R85) -/
  | notStart
  /-- the line does not hold the whole frame yet -/
  | truncated
  /-- `rx_state` code 5, 6 or 7 (R21) -/
  | rxStateCode
  /-- `tx_state` code 6 or 7 (R26) -/
  | txStateCode
  /-- `op = 0b00` is no operation (R78) -/
  | noOperation
  /-- `rst = 0` is no reset (R190) -/
  | rstLow
  deriving DecidableEq, Repr

/-! ## Decoding -/

/-- The frame at the head of a byte sequence and the bytes after it (R70, R74, R77). -/
def decodeFrame (mtu : Nat) : List Byte → Except DecodeError (Instr × List Byte)
  | [] => .error .truncated
  | [s] => if s = startByte then .error .truncated else .error .notStart
  | s :: l :: rest =>
    if s ≠ startByte then .error .notStart
    else if l = 0 then .ok (.ctrl, rest)
    else if legalLen mtu l then
      match rest.drop l.toNat with
      | c :: after => .ok (.data l (rest.take l.toNat) c, after)
      | [] => .error .truncated
    else if l.toNat < hdrSize then .ok (.badlenShort, rest)
    else .ok (.badlenLong l, rest)

/-- The RXF step of a state and the byte offered (R86): rows in order, the first match wins. -/
def decodeRxf (c : Ctx) (st : BitVec 3) (b : Byte) : Except DecodeError Instr :=
  match rxStateOf st with
  | some .hunt => .ok (if b = startByte then .rxHuntStart else .rxHuntSkip b)
  | some .len =>
    .ok (if b = 0 then .rxLenCtrl else if legalLen c.mtu b then .rxLenData b else .rxLenBad b)
  | some .payload => .ok (.rxPayload b)
  | some .cksum => .ok (if b = c.rxAcc then .rxCksumOk b else .rxCksumBad b)
  | some .push => .ok .rxPush
  | none => .error .rxStateCode

/-- The TXF step of a state (R87). -/
def decodeTxf (c : Ctx) (w : BitVec 3) : Except DecodeError Instr :=
  match txStateOf w with
  | some .ctrl => .ok .txCtrl
  | some .suWait => .ok (if c.timerZero then .txSuSample else .txSuTick)
  | some .check => .ok (if c.txqEmpty then .txCheckEmpty else .txCheckDeq)
  | some .wait1 => .ok .txWait1
  | some .gate => .ok .txGate
  | some .xmit => .ok .txXmit
  | none => .error .txStateCode

/-- The host operation of a fire vector (R78): bit 0 is SEND, accepted or rejected by SEND_CHECK
(R191, R192, R194); bit 1 is RECV (R195); with both, RECV fires beside the SEND. -/
def decodeHost (c : Ctx) (op : BitVec 2) (t : TxReq) : Except DecodeError Instr :=
  if op.getLsbD 0 then
    .ok (if sendCheck c.mtu t = .accepted then .send (op.getLsbD 1) t
         else .sendReject (op.getLsbD 1) t)
  else if op.getLsbD 1 then .ok .recv
  else .error .noOperation

/-- The decoder. -/
def decode (c : Ctx) : Code → Except DecodeError Instr
  | .wire bytes =>
    match decodeFrame c.mtu bytes with
    | .ok (i, _) => .ok i
    | .error e => .error e
  | .rxf w => decodeRxf c (w.extractLsb' 8 3) (w.extractLsb' 0 8)
  | .txf w => decodeTxf c w
  | .host op t => decodeHost c op t
  | .rst w => if w = 1 then .ok .init else .error .rstLow

/-! ## The opcode table's numbering -/

/-- A TX channel whose every bit is 0: the operand bits the table gives no place. -/
def TxReq.zero : TxReq :=
  { dst := 0, src := 0, last := false, func := 0, dlen := 0, data := [] }

/-- The code of a table word: 16-bit words are frame heads where the high byte is START and RXF words
where the high bits are a state; 8-bit words are TXF words (the table gives host_op and reset the same
numbers: log 8). Bytes of a frame beyond the head are 0. -/
def tableCode (nbits w : Nat) : Option Code :=
  if nbits = 16 then
    if w / 256 = 255 then
      let l := w % 256
      some (.wire (startByte :: BitVec.ofNat 8 l
        :: List.replicate (if hdrSize ≤ l then l + 1 else 0) 0))
    else if w < 2048 then some (.rxf (BitVec.ofNat 11 w))
    else none
  else if nbits = 8 then
    if w < 8 then some (.txf (BitVec.ofNat 3 w)) else none
  else none

/-- The selection context right after reset (R220), with the reference MTU. -/
def Ctx.atReset : Ctx :=
  { mtu := Config.reference.mtu, rxAcc := 0, timerZero := true, txqEmpty := true }

/-- The instruction the decoder reads from a table word, in the context right after reset. -/
def decodeTableWord (nbits w : Nat) : Option Instr :=
  match tableCode nbits w with
  | some code =>
    match decode Ctx.atReset code with
    | .ok i => some i
    | .error _ => none
  | none => none

/-! ## Encoding -/

/-- The bytes of the DATA frame with a given length, payload and checksum byte (R70). -/
def dataFrame (len : Byte) (payload : List Byte) (cksum : Byte) : List Byte :=
  startByte :: len :: (payload ++ [cksum])

/-- The fire vector `{rx_fire, tx_fire}` (R78). -/
def fireOp (rxFire txFire : Bool) : BitVec 2 := BitVec.ofBool rxFire ++ BitVec.ofBool txFire

/-- The code of an instruction. -/
def encode : Instr → Code
  | .ctrl => .wire [startByte, 0]
  | .data len payload cksum => .wire (dataFrame len payload cksum)
  | .badlenShort => .wire [startByte, 1]
  | .badlenLong len => .wire [startByte, len]
  | .rxHuntStart => .rxf (rxfWord (rxCode .hunt) startByte)
  | .rxHuntSkip b => .rxf (rxfWord (rxCode .hunt) b)
  | .rxLenCtrl => .rxf (rxfWord (rxCode .len) 0)
  | .rxLenData b => .rxf (rxfWord (rxCode .len) b)
  | .rxLenBad b => .rxf (rxfWord (rxCode .len) b)
  | .rxPayload b => .rxf (rxfWord (rxCode .payload) b)
  | .rxCksumOk b => .rxf (rxfWord (rxCode .cksum) b)
  | .rxCksumBad b => .rxf (rxfWord (rxCode .cksum) b)
  | .rxPush => .rxf (rxfWord (rxCode .push) 0)
  | .txCtrl => .txf (txCode .ctrl)
  | .txSuTick => .txf (txCode .suWait)
  | .txSuSample => .txf (txCode .suWait)
  | .txCheckEmpty => .txf (txCode .check)
  | .txCheckDeq => .txf (txCode .check)
  | .txWait1 => .txf (txCode .wait1)
  | .txGate => .txf (txCode .gate)
  | .txXmit => .txf (txCode .xmit)
  | .send rxFire t => .host (fireOp rxFire true) t
  | .sendReject rxFire t => .host (fireOp rxFire true) t
  | .recv => .host (fireOp true false) TxReq.zero
  | .init => .rst 1

end Sys2Proof
end

