-- ==== Sys2Proof/Machine/State.lean ====
section
/-! DEFINITION. The state of one link end: every element of 10_state R20, the sampled configuration
(R36), the port inputs the environment drives (R79, R80, R82, R220), and the model's own record of what
has left the block and of the coming turns. Plain data. -/

namespace Sys2Proof.Machine

/-- `fault_cause` (R34). Code 3 is reserved and never written: the type has no such value. -/
inductive FaultCause where
  | none
  | checksum
  | length
  deriving DecidableEq, Repr, Inhabited

/-- The state. -/
structure State where
  /-- R21 -/
  rxState : RxState
  /-- R22 -/
  rxLen : Byte
  /-- R23 -/
  rxCnt : Byte
  /-- R24 -/
  rxAcc : Byte
  /-- R25: `MTU` bytes -/
  rxBuf : List Byte
  /-- R26 -/
  txState : TxState
  /-- R27 -/
  txRet : TxRet
  /-- R28 -/
  txIdx : BitVec 9
  /-- R29: its width depends on STARTUP_INTERVAL, so a bounded natural number (log 14) -/
  txTimer : Nat
  /-- R30: `MTU + 3` bytes -/
  txBuf : List Byte
  /-- R30 -/
  txFlen : BitVec 9
  /-- R31: READY, ACK, TXQ at bits 0, 1, 2 -/
  sig : BitVec 3
  /-- R32: TXQ, oldest first -/
  txq : List Packet
  /-- R33: RXQ, oldest first -/
  rxq : List FrameRec
  /-- R34 -/
  fault : Bool
  /-- R34 -/
  faultCause : FaultCause
  /-- R34 -/
  faultLen : Byte
  /-- R34 -/
  faultByte : Byte
  /-- R34 -/
  faultCalc : Byte
  /-- R35: bit 0 checksum, bit 1 length -/
  errSticky : BitVec 2
  /-- R36: the configuration sampled at reset -/
  cfg : Params
  /-- R36, R220: the configuration inputs -/
  pins : Params
  /-- R220 -/
  rst : Bool
  /-- R82: the bytes in flight toward line-in; the head is the byte offered -/
  lineIn : List Byte
  /-- R82: `lout_ready` -/
  loutReady : Bool
  /-- R79: `tx_valid` -/
  txValid : Bool
  /-- R79: the TX channel's fields -/
  txChan : TxReq
  /-- R80: `rx_ready` -/
  rxReady : Bool
  /-- MODEL: the bytes handed to line-out, oldest first -/
  lineOut : List Byte
  /-- MODEL: the `tx_resp` codes given (R81), oldest first -/
  responses : List SendResp
  /-- MODEL: the packets RECV returned (R195), oldest first -/
  delivered : List RxPkt
  /-- MODEL: the coming turns (R14) -/
  agenda : List Turn
  /-- MODEL: the step counter the free values are applied to -/
  freeCount : Nat
  deriving DecidableEq, Repr

/-- The model's own stops: states outside every rule's domain. No state that meets the invariant
raises one (Safety.lean). All are safe: the model stops where the spec says nothing. Log 12. -/
inductive Fault where
  /-- Raised by RX_PAYLOAD, RX_PUSH and a DATA frame's run, when they would write or read beyond the
  `MTU` bytes of `rx_buf` (R25). Safe. -/
  | rxBufIndex
  /-- Raised by TX_CHECK_DEQ and TX_XMIT, when they would write or read beyond the `MTU + 3` bytes of
  `tx_buf` (R30). Safe. -/
  | txBufIndex
  /-- Raised by TX_CHECK_DEQ on a packet outside ENCODE's operands (R104). Safe. -/
  | encodeDomain
  /-- Raised by RECV on a record outside DECODE's operands (R106). Safe. -/
  | decodeDomain
  deriving DecidableEq, Repr

/-- Why an instruction has no meaning. -/
inductive Refusal where
  /-- Raised by exec's arm of an instruction that has no meaning yet. Safe. -/
  | notModelled (mnemonic : String)
  deriving DecidableEq, Repr

/-- What a meaning answers. -/
abbrev Result := Host.Outcome State Fault Refusal

/-- The state right after reset (R220, R221): the first cycle with `rst = 0`. The spec gives every
value but those of the buffers, of the port inputs and of the model's own fields.
`rxBuf`, `txBuf`: DESIGN CHOICE zero bytes, unsafe, log 5. `cfg`: log 4. Inputs: log 18. -/
def State.reset : State where
  rxState := .hunt
  rxLen := 0
  rxCnt := 0
  rxAcc := 0
  rxBuf := List.replicate Config.reference.mtu 0
  txState := .ctrl
  txRet := .suWait
  txIdx := 0
  txTimer := 0
  txBuf := List.replicate (Config.reference.mtu + 3) 0
  txFlen := 0
  sig := 0
  txq := []
  rxq := []
  fault := false
  faultCause := .none
  faultLen := 0
  faultByte := 0
  faultCalc := 0
  errSticky := 0
  cfg := Config.reference
  pins := Config.reference
  rst := false
  lineIn := []
  loutReady := false
  txValid := false
  txChan := { dst := 0, src := 0, last := false, func := 0, dlen := 0, data := [] }
  rxReady := false
  lineOut := []
  responses := []
  delivered := []
  agenda := []
  freeCount := 0

end Sys2Proof.Machine
end

