-- ==== Sys2Proof/Machine/Codec.lean ====
section
/-! DEFINITION. The frame codec (40_codec R100-R109): pure functions, no state (R38). -/

namespace Sys2Proof.Machine

/-- CKSUM (R100): the XOR fold of a byte sequence. -/
def cksum (s : List Byte) : Byte := s.foldr (· ^^^ ·) 0

/-- CKSUM_FRAME (R101): every byte from the start byte through the last payload byte. -/
def cksumFrame (len : Byte) (payload : List Byte) : Byte := cksum (startByte :: len :: payload)

/-- Header byte 0 (R75, R102): dst at bits 2:0, src at 5:3, last at 6, the reserved bit 7 written 0. -/
def packByte0 (r : Route) : Byte :=
  r.dst.setWidth 8 ||| (r.src.setWidth 8 <<< 3) ||| ((BitVec.ofBool r.last).setWidth 8 <<< 6)

/-- PACK (R102): target byte first, then the function byte (R51). -/
def pack (r : Route) : List Byte := [packByte0 r, r.func]

/-- UNPACK (R103): bit 7 of the first byte is ignored (R76). -/
def unpack (h0 h1 : Byte) : Route :=
  { dst := h0.extractLsb' 0 3, src := h0.extractLsb' 3 3, last := h0.getLsbD 6, func := h1 }

/-- ENCODE's operands (R104): the packet holds `dlen` data bytes and fits the MTU. -/
def Packet.fits (mtu : Nat) (k : Packet) : Bool :=
  (k.data.length == k.dlen.toNat) && decide (k.dlen.toNat ≤ mtu - hdrSize)

/-- The length byte of a packet's frame (R104). -/
def frameLen (k : Packet) : Byte := BitVec.ofNat 8 (k.dlen.toNat + hdrSize)

/-- The payload of a packet's frame: routing header, then data (R74). -/
def framePayload (k : Packet) : List Byte := pack k.route ++ k.data

/-- ENCODE (R104). -/
def encodePacket (k : Packet) : List Byte :=
  dataFrame (frameLen k) (framePayload k) (cksumFrame (frameLen k) (framePayload k))

/-- VALIDATE (R105). -/
def validate (len : Byte) (payload : List Byte) (c : Byte) : Bool := c == cksumFrame len payload

/-- DECODE's operands (R106): the record holds `len` payload bytes, `HDR_SIZE <= len <= MTU`. -/
def FrameRec.fits (mtu : Nat) (f : FrameRec) : Bool :=
  legalLen mtu f.len && (f.payload.length == f.len.toNat)

/-- DECODE (R106); none outside its operands. -/
def decodeRecord (mtu : Nat) (f : FrameRec) : Option Packet :=
  if FrameRec.fits mtu f then
    match f.payload with
    | h0 :: h1 :: data =>
      some { route := unpack h0 h1, dlen := f.len - BitVec.ofNat 8 hdrSize, data := data }
    | _ => none
  else none

/-- What the RX channel shows of a packet (R80): ids zero-extended. -/
def toRxPkt (k : Packet) : RxPkt :=
  { dst := k.route.dst.setWidth 4, src := k.route.src.setWidth 4, last := k.route.last,
    func := k.route.func, dlen := k.dlen, data := k.data }

end Sys2Proof.Machine
end

