-- ==== Sys2Proof/Machine/Flags.lean ====
section
/-! DEFINITION. The flow-control signal set (41_queues_signals R126-R132), the block's only flags, and
the bits of `err_sticky` (10_state R35). -/

namespace Sys2Proof.Machine

/-- The three signals (R126). -/
inductive Signal where
  | ready
  | ack
  | txq
  deriving DecidableEq, Repr

/-- The signal's bit in `sig` (R31). -/
def signalMask : Signal → BitVec 3
  | .ready => 0b001
  | .ack => 0b010
  | .txq => 0b100

/-- SigSet (R127): idempotent, never blocked. -/
def sigSet (x : Signal) (sig : BitVec 3) : BitVec 3 := sig ||| signalMask x

/-- SigPeek (R129). -/
def sigPeek (x : Signal) (sig : BitVec 3) : Bool := (sig &&& signalMask x) != 0

/-- The set T_WAIT1 waits for, {TXQ, ACK} (R166). -/
def waitSet : BitVec 3 := signalMask .txq ||| signalMask .ack

/-- The set T_GATE waits for, {ACK, READY} (R167). -/
def gateSet : BitVec 3 := signalMask .ack ||| signalMask .ready

/-- SigWaitAny's `await` (R128): some bit of the set is set. -/
def sigPending (set sig : BitVec 3) : Bool := (sig &&& set) != 0

/-- SigWaitAny's observation (R128). -/
def sigObserved (set sig : BitVec 3) : BitVec 3 := sig &&& set

/-- SigWaitAny's effect on `sig` (R128): the whole set is cleared, the other bits are unchanged. -/
def sigConsumed (set sig : BitVec 3) : BitVec 3 := sig &&& ~~~set

/-- The register-transfer form (R130): a set in the cycle of a consume survives. -/
def sigNext (sig clr set : BitVec 3) : BitVec 3 := (sig &&& ~~~clr) ||| set

/-- `err_sticky[0]`: a checksum mismatch has been detected (R35). -/
def stickyChecksum : BitVec 2 := 0b01

/-- `err_sticky[1]`: a length error has been detected (R35). -/
def stickyLength : BitVec 2 := 0b10

/-- The code of `fault_cause` (R34). -/
def causeCode : FaultCause → BitVec 2
  | .none => 0
  | .checksum => 1
  | .length => 2

/-- The code of `tx_resp` (R81). -/
def respCode : SendResp → BitVec 2
  | .accepted => 0
  | .dataTooLong => 1
  | .dstRange => 2
  | .srcRange => 3

end Sys2Proof.Machine
end

