-- ==== Sys2Proof/Machine/Operands.lean ====
section
/-! DEFINITION. Where a step's operands come from, and each instruction's `await` (00_scope R13): when
it is enabled. An agent none of whose steps is enabled waits (R15). -/

namespace Sys2Proof.Machine

/-- No agent steps while `fault = 1` (R202), and no transfer fires while `rst = 1` (R220). -/
def running (s : State) : Bool := !s.rst && !s.fault

/-- `Full(Q)` (R13, R120). -/
def full {α : Type} (depth : Nat) (q : List α) : Bool := decide (depth ≤ q.length)

/-- LineIn's enabling (R13): the byte `b` is the one offered at line-in. -/
def lineOffers (b : Byte) (s : State) : Bool := s.lineIn.head? == some b

/-- RXF is in state `st` and takes the byte `b` offered at line-in (R140). -/
def awaitByte (st : RxState) (b : Byte) (s : State) : Bool :=
  running s && (s.rxState == st) && lineOffers b s

/-- RXF is between frames and the whole frame is waiting at line-in. -/
def awaitFrame (frame : List Byte) (s : State) : Bool :=
  running s && (s.rxState == .hunt) && frame.isPrefixOf s.lineIn

/-- TXF is in state `st`. -/
def awaitTx (st : TxState) (s : State) : Bool := running s && (s.txState == st)

/-- The host presents the packet `t` on the TX channel (R79). -/
def awaitPresented (t : TxReq) (s : State) : Bool := running s && s.txValid && (s.txChan == t)

/-- RECV's transfer (R195, R196): `rx_valid` and `rx_ready`. -/
def awaitRecv (s : State) : Bool := running s && s.rxReady && !s.rxq.isEmpty

/-- With `rx_fire` set in the fire vector, the RX channel fires too (R78). -/
def awaitRxFire (rxFire : Bool) (s : State) : Bool := !rxFire || awaitRecv s

/-- Lane `i` of the TX channel (R79); a lane the operand does not list carries an unspecified byte
(log 11). -/
def txLane (t : TxReq) (count i : Nat) : Byte := t.data.getD i (Config.freeByte count i)

/-- The packet record a SEND stores (R192): `dst[2:0]`, `src[2:0]`, and data bytes `[0 ..< dlen]`. -/
def storedPacket (t : TxReq) (s : State) : Packet :=
  { route := { dst := t.dst.setWidth 3, src := t.src.setWidth 3, last := t.last, func := t.func },
    dlen := t.dlen,
    data := (List.range t.dlen.toNat).map (txLane t s.freeCount) }

/-- When an instruction is enabled: its rule's `await`. -/
def enabled (i : Instr) (s : State) : Bool :=
  match i with
  | .ctrl => awaitFrame [startByte, 0] s
  | .data len payload c =>
    awaitFrame (dataFrame len payload c) s && legalLen s.cfg.mtu len
      && (payload.length == len.toNat)
  | .badlenShort => awaitFrame [startByte, 1] s
  | .badlenLong len => awaitFrame [startByte, len] s && decide (s.cfg.mtu < len.toNat)
  | .rxHuntStart => awaitByte .hunt startByte s
  | .rxHuntSkip b => awaitByte .hunt b s && (b != startByte)
  | .rxLenCtrl => awaitByte .len 0 s
  | .rxLenData b => awaitByte .len b s && legalLen s.cfg.mtu b
  | .rxLenBad b => awaitByte .len b s && (b != 0) && !legalLen s.cfg.mtu b
  | .rxPayload b => awaitByte .payload b s
  | .rxCksumOk b => awaitByte .cksum b s && (b == s.rxAcc)
  | .rxCksumBad b => awaitByte .cksum b s && (b != s.rxAcc)
  | .rxPush => running s && (s.rxState == .push) && !full s.cfg.rxqDepth s.rxq
  | .txCtrl => awaitTx .ctrl s && s.loutReady
  | .txSuTick => awaitTx .suWait s && (s.txTimer != 0)
  | .txSuSample => awaitTx .suWait s && (s.txTimer == 0)
  | .txCheckEmpty => awaitTx .check s && s.txq.isEmpty
  | .txCheckDeq => awaitTx .check s && !s.txq.isEmpty
  | .txWait1 => awaitTx .wait1 s && sigPending waitSet s.sig
  | .txGate => awaitTx .gate s && sigPending gateSet s.sig
  | .txXmit => awaitTx .xmit s && s.loutReady
  | .send rxFire t =>
    awaitPresented t s && (sendCheck s.cfg.mtu t == .accepted) && !full s.cfg.txqDepth s.txq
      && awaitRxFire rxFire s
  | .sendReject rxFire t =>
    awaitPresented t s && (sendCheck s.cfg.mtu t != .accepted) && awaitRxFire rxFire s
  | .recv => awaitRecv s
  | .init => s.rst

end Sys2Proof.Machine
end

