-- ==== Sys2Proof/Machine/Ops.lean ====
section
/-! DEFINITION. The shared operations: transfers at the ports, the FIFOs (R121, R122), entering the
fault state (R201) and the only way out of it, reset (R203, R220); waiting (R15). -/

namespace Sys2Proof.Machine

/-- The first result's next state goes on to the second operation. -/
def andThen (r : Result) (k : State → Result) : Result :=
  match r with
  | .next s => k s
  | .fault f => .fault f
  | .refused x => .refused x

/-- An enabled step runs; otherwise the agent waits and no state changes (R13, R15; log 2). -/
def whenEnabled (i : Instr) (s : State) (body : Result) : Result :=
  if enabled i s then body else .next s

/-- LineIn: the byte offered is consumed (R57). -/
def takeByte (s : State) : State := { s with lineIn := s.lineIn.tail }

/-- LineOut(b): one byte is handed to the line-out port (R13). -/
def emit (b : Byte) (s : State) : State := { s with lineOut := s.lineOut ++ [b] }

/-- SigSet on the state (R127). -/
def raiseSignal (x : Signal) (s : State) : State := { s with sig := sigSet x s.sig }

/-- SigWaitAny's consume on the state (R128). -/
def consumeSignals (set : BitVec 3) (s : State) : State := { s with sig := sigConsumed set s.sig }

/-- Push into TXQ (R121). -/
def pushTxq (k : Packet) (s : State) : State := { s with txq := s.txq ++ [k] }

/-- Push into RXQ (R121). -/
def pushRxq (f : FrameRec) (s : State) : State := { s with rxq := s.rxq ++ [f] }

/-- An `err_sticky` bit is set; bits are never cleared but by reset (R35). -/
def setSticky (bits : BitVec 2) (s : State) : State := { s with errSticky := s.errSticky ||| bits }

/-- Fault entry, `raise Fault(cause, info)` (R201): the fault record, and nothing else. -/
def raiseFault (cause : FaultCause) (len byte computed : Byte) (s : State) : State :=
  { s with
    fault := true, faultCause := cause, faultLen := len, faultByte := byte, faultCalc := computed }

/-- `n` unspecified bytes (R220), free at every step. -/
def freeBytes (count start n : Nat) : List Byte :=
  (List.range n).map fun i => Config.freeByte count (start + i)

/-- Reset (R190, R220), the only exit of the fault state (R203): every state element takes its reset
value, the buffers' contents are unspecified, the configuration inputs are sampled (R36). The port
inputs and what has left the block are not the block's (log 16). -/
def initState (s : State) : State :=
  { s with
    rxState := .hunt, rxLen := 0, rxCnt := 0, rxAcc := 0,
    rxBuf := freeBytes s.freeCount 0 s.pins.mtu,
    txState := .ctrl, txRet := .suWait, txIdx := 0, txTimer := 0,
    txBuf := freeBytes s.freeCount s.pins.mtu (s.pins.mtu + 3),
    txFlen := 0, sig := 0, txq := [], rxq := [],
    fault := false, faultCause := .none, faultLen := 0, faultByte := 0, faultCalc := 0,
    errSticky := 0, cfg := s.pins }

end Sys2Proof.Machine
end

