-- ==== Sys2Proof/Machine/HostOps.lean ====
section
/-! DEFINITION. What the host transfers do once they fire (44_host_api R192-R195). -/

namespace Sys2Proof.Machine

/-- The response of a fired SEND is handed to the host, and the presented packet is taken (R79, R81). -/
def respond (r : SendResp) (s : State) : State :=
  { s with responses := s.responses ++ [r], txValid := false }

/-- SEND (accepted) (R192): the push, and `sig.TXQ` after it in the same step. -/
def acceptPacket (t : TxReq) (s : State) : State :=
  respond .accepted (raiseSignal .txq (pushTxq (storedPacket t s) s))

/-- SEND (rejected) (R194): the response, and no state of the block. -/
def rejectPacket (t : TxReq) (s : State) : State := respond (sendCheck s.cfg.mtu t) s

/-- RECV (R195): pop, decode, hand over. -/
def deliverHead (s : State) : Result :=
  match s.rxq with
  | [] => .next s
  | f :: rest =>
    match decodeRecord s.cfg.mtu f with
    | some k => .next { s with rxq := rest, delivered := s.delivered ++ [toRxPkt k] }
    | none => .fault .decodeDomain

/-- The RX channel's transfer of a cycle whose fire vector has `rx_fire` (R78, R197). -/
def deliverIf (rxFire : Bool) (s : State) : Result :=
  if rxFire then deliverHead s else .next s

end Sys2Proof.Machine
end

