-- ==== Sys2Proof/Machine/HostApi.lean ====
section
/-! DEFINITION. The host operations and reset (44_host_api R190-R197). -/

namespace Sys2Proof.Machine

/-- SEND (R192), with the RX channel's transfer beside it where the fire vector has it (R78). -/
def execSend (rxFire : Bool) (t : TxReq) (s : State) : Result :=
  whenEnabled (.send rxFire t) s (deliverIf rxFire (acceptPacket t s))

/-- SEND_REJECT (R194), with the RX channel's transfer beside it where the fire vector has it. -/
def execSendReject (rxFire : Bool) (t : TxReq) (s : State) : Result :=
  whenEnabled (.sendReject rxFire t) s (deliverIf rxFire (rejectPacket t s))

/-- RECV (R195). -/
def execRecv (s : State) : Result := whenEnabled .recv s (deliverHead s)

/-- INIT (R190): the clock edge with `rst = 1`. -/
def execInit (s : State) : Result := whenEnabled .init s (.next (initState s))

end Sys2Proof.Machine
end

