-- ==== Sys2Proof/Machine/ReceiverOps.lean ====
section
/-! DEFINITION. What each RXF step does once enabled (42_receiver R141-R148), and the run of these
steps over a sequence of bytes (R86). The byte rows and the frame rows of the table are both defined
over them. -/

namespace Sys2Proof.Machine

/-- RX_HUNT_START (R141). -/
def huntStart (s : State) : State := { takeByte s with rxAcc := startByte, rxState := .len }

/-- RX_HUNT_SKIP (R141): the byte is discarded. -/
def huntSkip (s : State) : State := takeByte s

/-- RX_LEN_CTRL (R142). -/
def lenCtrl (s : State) : State := { raiseSignal .ready (takeByte s) with rxState := .hunt }

/-- RX_LEN_DATA (R143). -/
def lenData (b : Byte) (s : State) : State :=
  { takeByte s with rxLen := b, rxCnt := 0, rxAcc := s.rxAcc ^^^ b, rxState := .payload }

/-- RX_LEN_BAD (R144): LENGTH fault under FATAL, back to R_HUNT under DROP_RESYNC. -/
def lenBad (b : Byte) (s : State) : State :=
  match s.cfg.errPolicy with
  | .fatal => raiseFault .length b b 0 (setSticky stickyLength (takeByte s))
  | .dropResync => { setSticky stickyLength (takeByte s) with rxState := .hunt }

/-- RX_PAYLOAD (R145): the test uses the incremented count. -/
def payloadByte (b : Byte) (s : State) : Result :=
  if s.rxCnt.toNat < s.rxBuf.length then
    .next { takeByte s with
      rxBuf := s.rxBuf.set s.rxCnt.toNat b
      rxAcc := s.rxAcc ^^^ b
      rxCnt := s.rxCnt + 1
      rxState := if s.rxCnt + 1 = s.rxLen then .cksum else .payload }
  else .fault .rxBufIndex

/-- RX_CKSUM_OK (R146). -/
def cksumOk (s : State) : State := { takeByte s with rxState := .push }

/-- RX_CKSUM_BAD (R147): CHECKSUM fault under FATAL; ACK and back to R_HUNT under DROP_RESYNC. -/
def cksumBad (b : Byte) (s : State) : State :=
  match s.cfg.errPolicy with
  | .fatal => raiseFault .checksum s.rxLen b s.rxAcc (setSticky stickyChecksum (takeByte s))
  | .dropResync =>
    { raiseSignal .ack (setSticky stickyChecksum (takeByte s)) with rxState := .hunt }

/-- RX_PUSH (R148): the push copies `rx_buf[0 ..< rx_len]` (R56) and sets ACK in the same step. -/
def pushFrame (s : State) : Result :=
  if s.rxLen.toNat ≤ s.rxBuf.length then
    .next { raiseSignal .ack
        (pushRxq { len := s.rxLen, payload := s.rxBuf.take s.rxLen.toNat } s) with
      rxState := .hunt }
  else .fault .rxBufIndex

/-- One RXF step on the byte offered, selected as R86 selects it. In R_PUSH no byte is taken. -/
def receiveByte (b : Byte) (s : State) : Result :=
  if running s then
    match s.rxState with
    | .hunt => .next (if b = startByte then huntStart s else huntSkip s)
    | .len =>
      .next (if b = 0 then lenCtrl s else if legalLen s.cfg.mtu b then lenData b s else lenBad b s)
    | .payload => payloadByte b s
    | .cksum => .next (if b = s.rxAcc then cksumOk s else cksumBad b s)
    | .push => .next s
  else .next s

/-- RXF's steps over a sequence of bytes, nothing else stepping in between. -/
def receiveBytes : List Byte → State → Result
  | [], s => .next s
  | b :: bs, s => andThen (receiveByte b s) (receiveBytes bs)

/-- The push of a frame RXF holds, where RXQ has room; otherwise RXF waits in R_PUSH (R148). -/
def pushHeld (s : State) : Result :=
  if running s && (s.rxState == .push) && !full s.cfg.rxqDepth s.rxq then pushFrame s else .next s

end Sys2Proof.Machine
end

