-- ==== Sys2Proof/Machine/Receiver.lean ====
section
/-! DEFINITION. The RXF rows (42_receiver R141-R148). -/

namespace Sys2Proof.Machine

/-- RX_HUNT_START (R141). -/
def execRxHuntStart (s : State) : Result := whenEnabled .rxHuntStart s (.next (huntStart s))

/-- RX_HUNT_SKIP (R141). -/
def execRxHuntSkip (b : Byte) (s : State) : Result :=
  whenEnabled (.rxHuntSkip b) s (.next (huntSkip s))

/-- RX_LEN_CTRL (R142). -/
def execRxLenCtrl (s : State) : Result := whenEnabled .rxLenCtrl s (.next (lenCtrl s))

/-- RX_LEN_DATA (R143). -/
def execRxLenData (b : Byte) (s : State) : Result :=
  whenEnabled (.rxLenData b) s (.next (lenData b s))

/-- RX_LEN_BAD (R144). -/
def execRxLenBad (b : Byte) (s : State) : Result :=
  whenEnabled (.rxLenBad b) s (.next (lenBad b s))

/-- RX_PAYLOAD (R145). -/
def execRxPayload (b : Byte) (s : State) : Result :=
  whenEnabled (.rxPayload b) s (payloadByte b s)

/-- RX_CKSUM_OK (R146). -/
def execRxCksumOk (b : Byte) (s : State) : Result :=
  whenEnabled (.rxCksumOk b) s (.next (cksumOk s))

/-- RX_CKSUM_BAD (R147). -/
def execRxCksumBad (b : Byte) (s : State) : Result :=
  whenEnabled (.rxCksumBad b) s (.next (cksumBad b s))

/-- RX_PUSH (R148). -/
def execRxPush (s : State) : Result := whenEnabled .rxPush s (pushFrame s)

end Sys2Proof.Machine
end

