-- ==== Sys2Proof/Machine/SenderOps.lean ====
section
/-! DEFINITION. What each TXF step does once enabled (43_sender R161-R168). -/

namespace Sys2Proof.Machine

/-- The state a `tx_ret` code names (R27). -/
def retState : TxRet → TxState
  | .suWait => .suWait
  | .check => .check
  | .gate => .gate
  | .xmit => .xmit

/-- The byte of the CTRL frame at `tx_idx` (R39, R161). -/
def ctrlByte (idx : BitVec 9) : Byte := if idx = 0 then startByte else 0

/-- TXF goes to emit a CTRL frame and then to `ret` (R163, R166, R167). -/
def sendCtrl (ret : TxRet) (s : State) : State :=
  { s with txRet := ret, txIdx := 0, txState := .ctrl }

/-- TX_CTRL (R161). -/
def ctrlEmit (s : State) : State :=
  if s.txIdx = 0 then { emit (ctrlByte s.txIdx) s with txIdx := 1 }
  else
    { emit (ctrlByte s.txIdx) s with
      txIdx := 0
      txState := retState s.txRet
      txTimer := if s.txRet = .suWait then s.cfg.startupInterval else s.txTimer }

/-- TX_SU_TICK (R162). -/
def suTick (s : State) : State := { s with txTimer := s.txTimer - 1 }

/-- TX_SU_SAMPLE (R163): READY is peeked, not consumed. -/
def suSample (s : State) : State :=
  if sigPeek .ready s.sig then { s with txState := .check } else sendCtrl .suWait s

/-- TX_CHECK_EMPTY (R164). -/
def checkEmpty (s : State) : State := { s with txState := .wait1 }

/-- TX_CHECK_DEQ (R165): pop, encode, hold. `sig.TXQ` is not cleared. -/
def checkDeq (s : State) : Result :=
  match s.txq with
  | [] => .next s
  | k :: rest =>
    if Packet.fits s.cfg.mtu k then
      if (encodePacket k).length ≤ s.txBuf.length then
        .next { s with
          txq := rest
          txBuf := encodePacket k ++ s.txBuf.drop (encodePacket k).length
          txFlen := BitVec.ofNat 9 (encodePacket k).length
          txIdx := 0
          txState := .gate }
      else .fault .txBufIndex
    else .fault .encodeDomain

/-- TX_WAIT1 (R166): every observed bit is consumed; an ACK is served with a CTRL frame. -/
def wait1Observe (s : State) : State :=
  if sigPeek .ack (sigObserved waitSet s.sig) then sendCtrl .check (consumeSignals waitSet s)
  else { consumeSignals waitSet s with txState := .check }

/-- Where T_GATE leads (R167): to T_XMIT on a READY observation, else back to T_GATE. -/
def gateNext (obs : BitVec 3) : TxRet := if sigPeek .ready obs then .xmit else .gate

/-- TX_GATE (R167): an ACK is served with a CTRL frame first. -/
def gateObserve (s : State) : State :=
  if sigPeek .ack (sigObserved gateSet s.sig) then
    sendCtrl (gateNext (sigObserved gateSet s.sig)) (consumeSignals gateSet s)
  else
    { consumeSignals gateSet s with txState := retState (gateNext (sigObserved gateSet s.sig)) }

/-- TX_XMIT (R168). -/
def xmitByte (s : State) : Result :=
  match s.txBuf[s.txIdx.toNat]? with
  | some b =>
    .next (if s.txIdx + 1 = s.txFlen then { emit b s with txIdx := 0, txState := .check }
           else { emit b s with txIdx := s.txIdx + 1 })
  | none => .fault .txBufIndex

end Sys2Proof.Machine
end

