-- ==== Sys2Proof/Machine/Sender.lean ====
section
/-! DEFINITION. The TXF rows (43_sender R161-R168). -/

namespace Sys2Proof.Machine

/-- TX_CTRL (R161). -/
def execTxCtrl (s : State) : Result := whenEnabled .txCtrl s (.next (ctrlEmit s))

/-- TX_SU_TICK (R162). -/
def execTxSuTick (s : State) : Result := whenEnabled .txSuTick s (.next (suTick s))

/-- TX_SU_SAMPLE (R163). -/
def execTxSuSample (s : State) : Result := whenEnabled .txSuSample s (.next (suSample s))

/-- TX_CHECK_EMPTY (R164). -/
def execTxCheckEmpty (s : State) : Result := whenEnabled .txCheckEmpty s (.next (checkEmpty s))

/-- TX_CHECK_DEQ (R165). -/
def execTxCheckDeq (s : State) : Result := whenEnabled .txCheckDeq s (checkDeq s)

/-- TX_WAIT1 (R166). -/
def execTxWait1 (s : State) : Result := whenEnabled .txWait1 s (.next (wait1Observe s))

/-- TX_GATE (R167). -/
def execTxGate (s : State) : Result := whenEnabled .txGate s (.next (gateObserve s))

/-- TX_XMIT (R168). -/
def execTxXmit (s : State) : Result := whenEnabled .txXmit s (xmitByte s)

end Sys2Proof.Machine
end

