-- ==== Sys2Proof/Machine/Wire.lean ====
section
/-! DEFINITION. The wire frame rows: a frame received whole, as the run of RXF's steps over its bytes
(30_encoding R70-R77; 42_receiver R141-R148; log 7). -/

namespace Sys2Proof.Machine

/-- CTRL (R70, R142). -/
def execCtrl (s : State) : Result :=
  whenEnabled .ctrl s (receiveBytes [startByte, 0] s)

/-- DATA (R70, R143, R145-R148): the bytes of the frame, then the push where RXQ has room. -/
def execData (len : Byte) (payload : List Byte) (c : Byte) (s : State) : Result :=
  whenEnabled (.data len payload c) s
    (andThen (receiveBytes (dataFrame len payload c) s) pushHeld)

/-- BADLEN_SHORT (R77, R144). -/
def execBadlenShort (s : State) : Result :=
  whenEnabled .badlenShort s (receiveBytes [startByte, 1] s)

/-- BADLEN_LONG (R77, R144). -/
def execBadlenLong (len : Byte) (s : State) : Result :=
  whenEnabled (.badlenLong len) s (receiveBytes [startByte, len] s)

end Sys2Proof.Machine
end

