-- ==== Sys2Proof/Machine/Dispatch.lean ====
section
/-! DEFINITION. One arm per instruction. -/

namespace Sys2Proof.Machine

def exec (i : Instr) (s : State) : Host.Outcome State Fault Refusal :=
  match i with
  | .ctrl => Sys2Proof.Machine.execCtrl s
  | .data len payload cksum => Sys2Proof.Machine.execData len payload cksum s
  | .badlenShort => Sys2Proof.Machine.execBadlenShort s
  | .badlenLong len => Sys2Proof.Machine.execBadlenLong len s
  | .rxHuntStart => Sys2Proof.Machine.execRxHuntStart s
  | .rxHuntSkip b => Sys2Proof.Machine.execRxHuntSkip b s
  | .rxLenCtrl => Sys2Proof.Machine.execRxLenCtrl s
  | .rxLenData b => Sys2Proof.Machine.execRxLenData b s
  | .rxLenBad b => Sys2Proof.Machine.execRxLenBad b s
  | .rxPayload b => Sys2Proof.Machine.execRxPayload b s
  | .rxCksumOk b => Sys2Proof.Machine.execRxCksumOk b s
  | .rxCksumBad b => Sys2Proof.Machine.execRxCksumBad b s
  | .rxPush => Sys2Proof.Machine.execRxPush s
  | .txCtrl => Sys2Proof.Machine.execTxCtrl s
  | .txSuTick => Sys2Proof.Machine.execTxSuTick s
  | .txSuSample => Sys2Proof.Machine.execTxSuSample s
  | .txCheckEmpty => Sys2Proof.Machine.execTxCheckEmpty s
  | .txCheckDeq => Sys2Proof.Machine.execTxCheckDeq s
  | .txWait1 => Sys2Proof.Machine.execTxWait1 s
  | .txGate => Sys2Proof.Machine.execTxGate s
  | .txXmit => Sys2Proof.Machine.execTxXmit s
  | .send rxFire t => Sys2Proof.Machine.execSend rxFire t s
  | .sendReject rxFire t => Sys2Proof.Machine.execSendReject rxFire t s
  | .recv => Sys2Proof.Machine.execRecv s
  | .init => Sys2Proof.Machine.execInit s

end Sys2Proof.Machine
end

