-- ==== Sys2Proof/Machine/Ports.lean ====
section
/-! DEFINITION. The port-facing values and status outputs: functions of the state (10_state R39;
30_encoding R79-R83). Each is 0 while `rst` is asserted (R39, R220). -/

namespace Sys2Proof.Machine

/-- `lin_ready` (R39, R140). -/
def linReady (s : State) : Bool := running s && (s.rxState != .push)

/-- `lout_valid` (R39, R160). -/
def loutValid (s : State) : Bool := running s && ((s.txState == .ctrl) || (s.txState == .xmit))

/-- `lout_data` (R39); a position beyond `tx_buf`, which no run reaches, shows an unspecified byte. -/
def loutData (s : State) : Byte :=
  if s.rst then 0
  else if s.txState = .ctrl then ctrlByte s.txIdx
  else s.txBuf.getD s.txIdx.toNat (Config.freeByte s.freeCount 0)

/-- `tx_ready` (R39): 1 for an invalid packet even while TXQ is full (R194). -/
def txReady (s : State) : Bool :=
  running s && ((sendCheck s.cfg.mtu s.txChan != .accepted) || !full s.cfg.txqDepth s.txq)

/-- `rx_valid` (R39). -/
def rxValid (s : State) : Bool := running s && !s.rxq.isEmpty

/-- `rx_pkt` (R39, R80): the decoded head while `rx_valid = 1`, unspecified otherwise (log 21). -/
def rxPkt (s : State) : RxPkt :=
  if s.rst then { dst := 0, src := 0, last := false, func := 0, dlen := 0, data := [] }
  else if rxValid s then
    match s.rxq.head?.bind (decodeRecord s.cfg.mtu) with
    | some k => toRxPkt k
    | none => Config.freeRxPkt s.freeCount
  else Config.freeRxPkt s.freeCount

/-- `startup_done` (R39, R83). -/
def startupDone (s : State) : Bool :=
  !s.rst && !((s.txState == .suWait) || ((s.txState == .ctrl) && (s.txRet == .suWait)))

/-- The other status outputs (R83). -/
structure Status where
  fault : Bool
  faultCause : BitVec 2
  faultLen : Byte
  faultByte : Byte
  faultCalc : Byte
  errSticky : BitVec 2
  deriving DecidableEq, Repr

/-- The status outputs: copies of the state (R83), 0 during reset. -/
def status (s : State) : Status :=
  if s.rst then
    { fault := false, faultCause := 0, faultLen := 0, faultByte := 0, faultCalc := 0,
      errSticky := 0 }
  else
    { fault := s.fault, faultCause := causeCode s.faultCause, faultLen := s.faultLen,
      faultByte := s.faultByte, faultCalc := s.faultCalc, errSticky := s.errSticky }

/-- `{rx_fire, tx_fire}` (R78). -/
def fireVector (s : State) : BitVec 2 :=
  fireOp (rxValid s && s.rxReady) (s.txValid && txReady s)

end Sys2Proof.Machine
end

