-- ==== Sys2Proof/Machine/Fetch.lean ====
section
/-! DEFINITION. How a step finds its instruction: whose turn it is (R14), the word that agent's state and
inputs form (R78, R86, R87), and where a given code has to stand to be the next one. -/

namespace Sys2Proof.Machine

/-- The next turn: the agenda's first, or a FREE choice (R14, 93 #18; log 1). -/
def nextTurn (s : State) : Turn :=
  match s.agenda with
  | t :: _ => t
  | [] => Config.freeTurn s.freeCount

/-- The step counter advances, so that the free values of the coming turn or cycle are fresh. DESIGN CHOICE,
safe, log 22. -/
def tick (s : State) : State := { s with freeCount := s.freeCount + 1 }

/-- The turn is used up, and the step counter advances (log 22). -/
def afterFetch (s : State) : State := { tick s with agenda := s.agenda.tail }

/-- The environment's turns: inputs change between steps (R14, R79, R80, R82, R220). -/
def environmentTurn (t : Turn) (s : State) : Option State :=
  match t with
  | .rxf => none
  | .txf => none
  | .host _ => none
  | .frame => none
  | .offer bytes => some { s with lineIn := s.lineIn ++ bytes }
  | .disturb bytes => some { s with lineIn := bytes }
  | .lineOutReady ready => some { s with loutReady := ready }
  | .present t => some { s with txValid := true, txChan := t }
  | .withdraw => some { s with txValid := false }
  | .hostReady ready => some { s with rxReady := ready }
  | .resetPin level => some { s with rst := level }
  | .setPins p => some { s with pins := p }

/-- RXF's word: in R_PUSH no byte is taken; in the other states the byte offered, if one is (R86). -/
def rxfCode (s : State) : Option Code :=
  if s.rxState = .push then some (.rxf (rxfWord (rxCode .push) 0))
  else s.lineIn.head?.map fun b => .rxf (rxfWord (rxCode s.rxState) b)

/-- The host's word (R78): the fire vector of the channels that have the turn; 0b00 is no operation. -/
def hostCode (who : BitVec 2) (s : State) : Option Code :=
  if fireVector s &&& who = 0 then none else some (.host (fireVector s &&& who) s.txChan)

/-- The word an agent's turn forms. While `rst = 1` every clock edge is a reset (R220). -/
def fetchCode (t : Turn) (s : State) : Option Code :=
  if s.rst then some (.rst 1)
  else
    match t with
    | .rxf => rxfCode s
    | .txf => some (.txf (txCode s.txState))
    | .host who => hostCode who s
    | .frame => some (.wire s.lineIn)
    | .offer _ => none
    | .disturb _ => none
    | .lineOutReady _ => none
    | .present _ => none
    | .withdraw => none
    | .hostReady _ => none
    | .resetPin _ => none
    | .setPins _ => none

/-- What the selection conditions read (R77, R86, R87, R191). -/
def selectCtx (s : State) : Ctx :=
  { mtu := s.cfg.mtu, rxAcc := s.rxAcc, timerZero := s.txTimer == 0, txqEmpty := s.txq.isEmpty }

/-- The state whose next step fetches `code`: the FSM state register the word names (R37: it stands where
a program counter would), the byte or frame at line-in, the channel inputs, and the agent's turn. A word
that names no FSM state changes nothing. -/
def placeCode (code : Code) (s : State) : State :=
  match code with
  | .wire bytes =>
    { s with rst := false, rxState := .hunt, lineIn := bytes ++ s.lineIn,
             agenda := .frame :: s.agenda }
  | .rxf w =>
    match rxStateOf (w.extractLsb' 8 3) with
    | some .push => { s with rst := false, rxState := .push, agenda := .rxf :: s.agenda }
    | some st =>
      { s with rst := false, rxState := st, lineIn := w.extractLsb' 0 8 :: s.lineIn,
               agenda := .rxf :: s.agenda }
    | none => s
  | .txf w =>
    match txStateOf w with
    | some st =>
      { s with rst := false, txState := st, loutReady := true, agenda := .txf :: s.agenda }
    | none => s
  | .host op t =>
    { s with rst := false, txValid := op.getLsbD 0, txChan := t, rxReady := op.getLsbD 1,
             agenda := .host op :: s.agenda }
  | .rst w => { s with rst := w == 1, agenda := .rxf :: s.agenda }

end Sys2Proof.Machine
end

