-- ==== Sys2Proof/Machine/Step.lean ====
section
/-! DEFINITION. One step of the machine: one turn (R14). -/

namespace Sys2Proof.Machine

/-- A turn: an input changes, or an agent runs the instruction its word decodes to. An agent with no word
(nothing offered, no channel firing, no whole frame at the line) waits (R15). A turn by itself does not advance
the step counter: `step`, `cycle` and `linkStep` do, once each (log 22). -/
def perform (t : Turn) (s : State) : Host.Outcome State Fault Refusal :=
  match environmentTurn t s with
  | some s' => .next s'
  | none =>
    match fetchCode t s with
    | none => .next s
    | some code =>
      match decode (selectCtx s) code with
      | .ok i => exec i s
      | .error _ => .next s

/-- One step: the next turn. -/
def step (s : State) : Host.Outcome State Fault Refusal := perform (nextTurn s) (afterFetch s)

/-- The state whose next step runs the table word `w` of `nbits` bits (log 8, log 15). -/
def State.withFetchWord (s : State) (nbits w : Nat) : State :=
  match tableCode nbits w with
  | some code => placeCode code s
  | none => s

end Sys2Proof.Machine
end

