-- ==== Sys2Proof/Machine/Cycle.lean ====
section
/-! DEFINITION. The register-transfer realisation beside the interleaving model (41_queues_signals R123,
R130; 60_exceptions R206; 70_reset R234; log 19): one clock cycle, in which each agent takes at most one
step, selected on the cycle's old state. -/

namespace Sys2Proof.Machine

/-- The instruction a turn runs, where it is enabled. -/
def turnInstr (t : Turn) (s : State) : Option Instr :=
  match fetchCode t s with
  | none => none
  | some code =>
    match decode (selectCtx s) code with
    | .ok i => if enabled i s then some i else none
    | .error _ => none

/-- The agents of one cycle: consumers of `sig` before its setters (R130), RXF last, so that a fault
comes after the other agents' steps (R206). The host channels that fire are those of the old state's
fire vector (R78). -/
def cycleTurns (s : State) : List Turn := [.txf, .host (fireVector s), .rxf]

/-- The turns of one cycle whose agents step: enabled on the old state (R123, R234). -/
def cycleSchedule (s : State) : List Turn :=
  if s.rst then [.rxf] else (cycleTurns s).filter fun t => (turnInstr t s).isSome

/-- The instructions of one cycle, read from the old state; while `rst = 1` it is reset (R220). -/
def cycleInstrs (s : State) : List Instr :=
  if s.rst then [.init] else (cycleTurns s).filterMap fun t => turnInstr t s

/-- Instructions run one after the other. -/
def runInstrs : List Instr → State → Result
  | [], s => .next s
  | i :: is, s => andThen (exec i s) (runInstrs is)

/-- One clock cycle. It advances the step counter once, so the bytes a cycle leaves unspecified (the buffers
after a reset, R220; TX lanes the channel does not list, R79) are fresh in every cycle. R234 leaves them open:
DESIGN CHOICE, safe, log 22. At most one instruction of a cycle reads the counter, INIT or SEND. -/
def cycle (s : State) : Result := runInstrs (cycleInstrs s) (tick s)

/-- Turns performed one after the other, the step counter standing still: all of them share their free values,
so a run in which two turns read one belongs to `step` or `linkStep` (log 22). -/
def runTurns : List Turn → State → Result
  | [], s => .next s
  | t :: ts, s => andThen (perform t s) (runTurns ts)

/-- The consume mask of an instruction (R130, R131). -/
def clearMask : Instr → BitVec 3
  | .txWait1 => waitSet
  | .txGate => gateSet
  | _ => 0

/-- The set request of an instruction (R130, R131), under an error policy. -/
def setMask (policy : ErrPolicy) : Instr → BitVec 3
  | .rxLenCtrl => signalMask .ready
  | .rxPush => signalMask .ack
  | .rxCksumBad _ => if policy = .dropResync then signalMask .ack else 0
  | .send _ _ => signalMask .txq
  | _ => 0

/-- The OR of the masks of a cycle's instructions (R130). -/
def orMasks (f : Instr → BitVec 3) (is : List Instr) : BitVec 3 :=
  is.foldr (fun i m => f i ||| m) 0

end Sys2Proof.Machine
end

