-- ==== Sys2Proof/Safety.lean ====
section
/-! DEFINITION. What counts as a safe run: the invariant of one link end (10_state R20-R35, 42_receiver
R149) and the outcome a safe step has. -/

namespace Sys2Proof.Machine

/-- The buffers hold `MTU` and `MTU + 3` bytes (R25, R30). -/
def buffersOk (s : State) : Prop :=
  s.rxBuf.length = s.cfg.mtu ∧ s.txBuf.length = s.cfg.mtu + 3

/-- The queues are within their depths and hold records of R32 and R33. -/
def queuesOk (s : State) : Prop :=
  s.txq.length ≤ s.cfg.txqDepth ∧ (∀ k ∈ s.txq, Packet.fits s.cfg.mtu k = true) ∧
  s.rxq.length ≤ s.cfg.rxqDepth ∧ (∀ f ∈ s.rxq, FrameRec.fits s.cfg.mtu f = true)

/-- RXF's registers in each state (R24, R149). -/
def receiverOk (s : State) : Prop :=
  match s.rxState with
  | .hunt => True
  | .len => s.rxAcc = startByte
  | .payload =>
    legalLen s.cfg.mtu s.rxLen = true ∧ s.rxCnt.toNat < s.rxLen.toNat ∧
    s.rxAcc = cksum (startByte :: s.rxLen :: s.rxBuf.take s.rxCnt.toNat)
  | .cksum =>
    legalLen s.cfg.mtu s.rxLen = true ∧ s.rxCnt = s.rxLen ∧
    s.rxAcc = cksumFrame s.rxLen (s.rxBuf.take s.rxLen.toNat)
  | .push =>
    legalLen s.cfg.mtu s.rxLen = true ∧ s.rxCnt = s.rxLen ∧
    s.rxAcc = cksumFrame s.rxLen (s.rxBuf.take s.rxLen.toNat)

/-- The encoded frame in `tx_buf` (R30). -/
def heldFrame (s : State) : List Byte := s.txBuf.take s.txFlen.toNat

/-- TXF holds or emits a DATA frame: from T_GATE to T_XMIT, CTRL frames in between included (R30). -/
def holdsFrame (s : State) : Bool :=
  (s.txState == .gate) || (s.txState == .xmit) ||
  ((s.txState == .ctrl) && ((s.txRet == .gate) || (s.txRet == .xmit)))

/-- TXF's registers in each state (R28-R30). -/
def senderOk (s : State) : Prop :=
  (s.txState = .ctrl → s.txIdx = 0 ∨ s.txIdx = 1) ∧
  (s.txState = .xmit → s.txIdx.toNat < s.txFlen.toNat) ∧
  (s.txState ≠ .ctrl → s.txState ≠ .xmit → s.txIdx = 0) ∧
  s.txTimer ≤ s.cfg.startupInterval ∧ (s.txState ≠ .suWait → s.txTimer = 0) ∧
  (holdsFrame s = true → ∃ k, Packet.fits s.cfg.mtu k = true ∧
    heldFrame s = encodePacket k ∧ s.txFlen.toNat = (encodePacket k).length)

/-- The fault record and `err_sticky` (R34, R35, R201, R204). -/
def faultOk (s : State) : Prop :=
  (s.fault = false →
    s.faultCause = .none ∧ s.faultLen = 0 ∧ s.faultByte = 0 ∧ s.faultCalc = 0 ∧
    (s.cfg.errPolicy = .fatal → s.errSticky = 0)) ∧
  (s.fault = true →
    s.cfg.errPolicy = .fatal ∧
    ((s.faultCause = .checksum ∧ s.errSticky = stickyChecksum ∧ s.rxState = .cksum ∧
        s.faultLen = s.rxLen ∧ s.faultCalc = s.rxAcc ∧ s.faultByte ≠ s.faultCalc) ∨
     (s.faultCause = .length ∧ s.errSticky = stickyLength ∧ s.rxState = .len ∧
        s.faultByte = s.faultLen ∧ s.faultCalc = 0 ∧ s.faultLen ≠ 0 ∧
        legalLen s.cfg.mtu s.faultLen = false)))

/-- The invariant of one link end. -/
def EndInv (s : State) : Prop :=
  buffersOk s ∧ queuesOk s ∧ receiverOk s ∧ senderOk s ∧ faultOk s

/-- A safe outcome: the machine goes on. -/
def goesOn (r : Result) : Prop := ∃ t, r = .next t

end Sys2Proof.Machine
end

