-- ==== Sys2Proof/Machine/Link.lean ====
section
/-! DEFINITION. Two link ends on an ideal line (60_exceptions R210): each channel is an in-order lossless
byte FIFO, held as the receiving end's bytes in flight. The tokens on a line, the order of packets (R58)
and the credit total K (70_reset R227) are read from the two states. -/

namespace Sys2Proof.Machine

/-! ## The tokens of a byte stream -/

/-- Where a parse of the line stands: RXF's position, with the payload bytes got so far. -/
inductive Phase where
  | hunt
  | len
  | body (len : Byte) (got : List Byte)
  | cksum (len : Byte) (got : List Byte)
  deriving DecidableEq, Repr

/-- What a parse finds: a CTRL frame, a validated DATA frame, or a receive error. -/
inductive Token where
  | ctrl
  | data (f : FrameRec)
  | bad
  deriving DecidableEq, Repr

/-- One byte of the stream, read as RXF reads it (R86). -/
def phaseByte (mtu : Nat) (ph : Phase) (b : Byte) : Phase × Option Token :=
  match ph with
  | .hunt => if b = startByte then (.len, none) else (.hunt, none)
  | .len =>
    if b = 0 then (.hunt, some .ctrl)
    else if legalLen mtu b then (.body b [], none)
    else (.hunt, some .bad)
  | .body len got =>
    if got.length + 1 = len.toNat then (.cksum len (got ++ [b]), none)
    else (.body len (got ++ [b]), none)
  | .cksum len got =>
    if b = cksumFrame len got then (.hunt, some (.data { len := len, payload := got }))
    else (.hunt, some .bad)

/-- The tokens of a stream and where it ends. -/
def parse (mtu : Nat) : Phase → List Byte → List Token × Phase
  | ph, [] => ([], ph)
  | ph, b :: bs =>
    ((phaseByte mtu ph b).2.toList ++ (parse mtu (phaseByte mtu ph b).1 bs).1,
      (parse mtu (phaseByte mtu ph b).1 bs).2)

/-- Where RXF stands in the stream. In R_PUSH the frame is complete. -/
def phaseOf (s : State) : Phase :=
  match s.rxState with
  | .hunt => .hunt
  | .len => .len
  | .payload => .body s.rxLen (s.rxBuf.take s.rxCnt.toNat)
  | .cksum => .cksum s.rxLen (s.rxBuf.take s.rxLen.toNat)
  | .push => .hunt

/-- The bytes of the frame TXF is emitting that have not left it. -/
def unsent (s : State) : List Byte :=
  match s.txState with
  | .ctrl => [startByte, 0].drop s.txIdx.toNat
  | .xmit => (heldFrame s).drop s.txIdx.toNat
  | .suWait => []
  | .check => []
  | .wait1 => []
  | .gate => []

/-- The bytes of the frame TXF is emitting that have left it. -/
def emitted (s : State) : List Byte :=
  match s.txState with
  | .ctrl => [startByte, 0].take s.txIdx.toNat
  | .xmit => (heldFrame s).take s.txIdx.toNat
  | .suWait => []
  | .check => []
  | .wait1 => []
  | .gate => []

/-- The stream from `a`'s TXF to `b`'s RXF: what is in flight and what is being emitted. -/
def streamTokens (a b : State) : List Token × Phase :=
  parse b.cfg.mtu (phaseOf b) (b.lineIn ++ unsent a)

/-- The line holds good frames only, and RXF will stand after it where TXF stands in the frame it is
emitting: RXF is aligned (R230). -/
def aligned (a b : State) : Prop :=
  Token.bad ∉ (parse b.cfg.mtu (phaseOf b) b.lineIn).1 ∧
  (parse b.cfg.mtu (phaseOf b) b.lineIn).2 = (parse b.cfg.mtu .hunt (emitted a)).2

/-- The records of the DATA tokens. -/
def dataRecords (toks : List Token) : List FrameRec :=
  toks.filterMap fun t =>
    match t with
    | .data f => some f
    | .ctrl => none
    | .bad => none

/-! ## Packets between the two ends, in order (R58) -/

/-- The frame RXF holds in R_PUSH (R40). -/
def pushRecord (s : State) : List FrameRec :=
  if s.rxState = .push then [{ len := s.rxLen, payload := s.rxBuf.take s.rxLen.toNat }] else []

/-- The frame TXF holds and has not begun to emit. -/
def gateRecord (s : State) : List FrameRec :=
  if (holdsFrame s && (s.txState != .xmit)) = true then
    dataRecords (parse s.cfg.mtu .hunt (heldFrame s)).1
  else []

/-- The packets accepted at `a` and not yet delivered at `b`, oldest first. -/
def inTransit (a b : State) : List Packet :=
  (b.rxq ++ pushRecord b ++ dataRecords (streamTokens a b).1 ++ gateRecord a).filterMap
    (decodeRecord b.cfg.mtu) ++ a.txq

/-- FIFO order (R58): what `b` delivered, then what is on the way, is what `a` accepted. -/
def inOrder (sent : List Packet) (a b : State) : Prop :=
  sent.map toRxPkt = b.delivered ++ (inTransit a b).map toRxPkt

/-! ## The link -/

/-- Two ends, and the packets each has accepted, oldest first. -/
structure Link where
  a : State
  b : State
  sentA : List Packet
  sentB : List Packet
  deriving DecidableEq, Repr

/-- The two ends of a link. -/
inductive Side where
  | a
  | b
  deriving DecidableEq, Repr

/-- Turns on an ideal line with both ends out of reset: the agents, and the hosts' and the byte devices'
inputs. Bytes at line-in come from the peer only. -/
def linkTurn : Turn → Bool
  | .rxf => true
  | .txf => true
  | .host _ => true
  | .frame => false
  | .offer _ => false
  | .disturb _ => false
  | .lineOutReady _ => true
  | .present _ => true
  | .withdraw => true
  | .hostReady _ => true
  | .resetPin _ => false
  | .setPins _ => false

/-- The packet a turn accepted, if it accepted one (R192). -/
def newlySent (s s' : State) : List Packet :=
  if s'.responses = s.responses ++ [.accepted] then s'.txq.getLast?.toList else []

/-- The channel takes the bytes that left one end and puts them in flight toward the other (R210). -/
def drain (s : State) : State := { s with lineOut := [] }

/-- Bytes put in flight toward line-in. -/
def feed (bytes : List Byte) (s : State) : State := { s with lineIn := s.lineIn ++ bytes }

/-- One turn of one end, after its step counter has advanced, so that the unspecified bytes of every turn are
fresh (DESIGN CHOICE, log 22: ends whose counters are equal share their free values); the bytes it hands to
line-out are in flight toward the other. -/
def linkStep (side : Side) (t : Turn) (l : Link) : Option Link :=
  match side with
  | .a =>
    match perform t (tick l.a) with
    | .next a' =>
      some { l with a := drain a', b := feed a'.lineOut l.b,
                    sentA := l.sentA ++ newlySent l.a a' }
    | .fault _ => none
    | .refused _ => none
  | .b =>
    match perform t (tick l.b) with
    | .next b' =>
      some { l with b := drain b', a := feed b'.lineOut l.a,
                    sentB := l.sentB ++ newlySent l.b b' }
    | .fault _ => none
    | .refused _ => none

/-- Both ends right after a common reset release (R225 (a)). -/
def linkReset : Link := { a := State.reset, b := State.reset, sentA := [], sentB := [] }

/-- The invariant of a link on an ideal line. -/
def LinkInv (l : Link) : Prop :=
  EndInv l.a ∧ EndInv l.b ∧ running l.a = true ∧ running l.b = true ∧
  l.a.lineOut = [] ∧ l.b.lineOut = [] ∧ l.a.cfg.mtu = l.b.cfg.mtu ∧
  aligned l.a l.b ∧ aligned l.b l.a ∧
  inOrder l.sentA l.a l.b ∧ inOrder l.sentB l.b l.a

/-! ## The credit total (R227) -/

/-- 1 if the condition holds. -/
def unit (c : Bool) : Nat := if c then 1 else 0

/-- DATA frames whose last byte has left the sender and which RXF has not pushed. -/
def dataArrived (s : State) : Nat :=
  (dataRecords (parse s.cfg.mtu (phaseOf s) s.lineIn).1).length + unit (s.rxState == .push)

/-- CTRL frames emitted whole by the peer and not yet parsed. -/
def ctrlArrived (s : State) : Nat :=
  (parse s.cfg.mtu (phaseOf s) s.lineIn).1.count .ctrl

/-- A frame released and not yet fully emitted. -/
def released (s : State) : Bool :=
  (s.txState == .xmit) || ((s.txState == .ctrl) && (s.txRet == .xmit))

/-- An ACK reply being emitted. -/
def replying (s : State) : Bool := (s.txState == .ctrl) && (s.txRet != .suWait)

/-- The credit total K of the direction from `a` to `b` (R227, the sum of its six counts; log 20). -/
def creditTotal (a b : State) : Nat :=
  dataArrived b + unit (released a) + unit (sigPeek .ready a.sig) + ctrlArrived a +
  unit (sigPeek .ack b.sig) + unit (replying b)

end Sys2Proof.Machine
end

