-- ==== Sys2Proof/WellFormed.lean ====
section
/-! DEFINITION. When an instruction is well formed: its operands satisfy the condition its row names
(R70, R77, R86, R87, R191), in the selection context the condition reads. -/

namespace Sys2Proof

/-- The condition column of the instruction's row. -/
def Instr.wf (c : Ctx) : Instr → Bool
  | .ctrl => true
  | .data len payload _ => legalLen c.mtu len && (payload.length == len.toNat)
  | .badlenShort => true
  | .badlenLong len => decide (c.mtu < len.toNat)
  | .rxHuntStart => true
  | .rxHuntSkip b => b != startByte
  | .rxLenCtrl => true
  | .rxLenData b => legalLen c.mtu b
  | .rxLenBad b => b != 0 && !legalLen c.mtu b
  | .rxPayload _ => true
  | .rxCksumOk b => b == c.rxAcc
  | .rxCksumBad b => b != c.rxAcc
  | .rxPush => true
  | .txCtrl => true
  | .txSuTick => !c.timerZero
  | .txSuSample => c.timerZero
  | .txCheckEmpty => c.txqEmpty
  | .txCheckDeq => !c.txqEmpty
  | .txWait1 => true
  | .txGate => true
  | .txXmit => true
  | .send _ t => sendCheck c.mtu t == .accepted
  | .sendReject _ t => sendCheck c.mtu t != .accepted
  | .recv => true
  | .init => true

/-- The parameter's range (R5), as the context carries it. -/
def Ctx.ok (c : Ctx) : Bool := decide (hdrSize ≤ c.mtu) && decide (c.mtu ≤ 255)

end Sys2Proof
end

