-- ==== Sys2Proof/Certificates/Slice0/Obligations.lean ====
section
/-! DEFINITION. The statements for the provers, grouped as the spec's files are: reset, encoding, turns,
RXF, frames, TXF, host operations, faults, ports, codec, signals, the clock cycle, the two-end link.
A meaning's statement is an equation with the whole next state, so it is the frame as well. In every such
equation a byte taken leaves `lineIn`, a byte handed over joins `lineOut`, a code joins `responses` and a
packet joins `delivered`: the model's record of transfers (log 3). A blocked step (R13, R15) is shown as the
unchanged state (log 2). -/

open Sys2Proof Sys2Proof.Machine

/-! ## Reset and the invariant -/

/-- Reset values (70_reset R220, 10_state R20-R35), the buffers excepted, whose contents are unspecified. -/
def Obligations.ResetStateHoldsTheResetValues : Prop :=
  State.reset.rxState = .hunt ∧ State.reset.rxLen = 0 ∧ State.reset.rxCnt = 0 ∧
  State.reset.rxAcc = 0 ∧ State.reset.txState = .ctrl ∧ State.reset.txRet = .suWait ∧
  State.reset.txIdx = 0 ∧ State.reset.txTimer = 0 ∧ State.reset.txFlen = 0 ∧
  State.reset.sig = 0b000 ∧ State.reset.txq = [] ∧ State.reset.rxq = [] ∧
  State.reset.fault = false ∧ State.reset.faultCause = .none ∧ State.reset.faultLen = 0 ∧
  State.reset.faultByte = 0 ∧ State.reset.faultCalc = 0 ∧ State.reset.errSticky = 0b00

/-- The outputs in the first cycle with `rst = 0` (70_reset R221). -/
def Obligations.OutputsInTheFirstCycleAfterReset : Prop :=
  linReady State.reset = true ∧ loutValid State.reset = true ∧ loutData State.reset = 0xFF ∧
  (∀ t : TxReq, txReady { State.reset with txChan := t } = true) ∧
  rxValid State.reset = false ∧ startupDone State.reset = false ∧
  (status State.reset).fault = false ∧ (status State.reset).errSticky = 0

/-- The state after reset meets the invariant of one link end (Safety.lean). -/
def Obligations.ResetStateMeetsTheInvariant : Prop := EndInv State.reset

/-- Every step keeps the invariant (42_receiver R149, 10_state R21-R35, 43_sender R160-R168). -/
def Obligations.EveryStepKeepsTheInvariant : Prop :=
  ∀ s t : State, EndInv s → step s = .next t → EndInv t

/-- From a state that meets the invariant every step goes on: none of the model's stops is reached. -/
def Obligations.NoStepStopsUnderTheInvariant : Prop :=
  ∀ s : State, EndInv s → goesOn (step s)

/-! ## Encoding -/

/-- Decoding the code of a well-formed instruction gives it back, and a frame leaves the rest of the line
(30_encoding R70, R77, R78, R86, R87). -/
def Obligations.DecodingAnEncodedInstructionGivesItBack : Prop :=
  ∀ (c : Ctx) (i : Instr), c.ok = true → i.wf c = true →
    decode c (encode i) = .ok i ∧
    ∀ bytes rest : List Byte, encode i = .wire bytes →
      decodeFrame c.mtu (bytes ++ rest) = .ok (i, rest)

/-- The decoder answers well-formed instructions only (the condition column of R77, R86, R87, R191). -/
def Obligations.DecodedInstructionsAreWellFormed : Prop :=
  ∀ (c : Ctx) (code : Code) (i : Instr), c.ok = true → decode c code = .ok i → i.wf c = true

/-- A few words written out from the encoding tables (30_encoding R70, R86, R87, R78). -/
def Obligations.WordsOfTheEncodingTablesDecode : Prop :=
  decode Ctx.atReset (.wire [0xFF, 0x00]) = .ok .ctrl ∧
  decode Ctx.atReset (.wire [0xFF, 0x02, 0x00, 0x00, 0xFD]) = .ok (.data 2 [0, 0] 0xFD) ∧
  decode Ctx.atReset (.rxf 0b001_00000111) = .ok (.rxLenData 7) ∧
  decode Ctx.atReset (.rxf 0b100_00000000) = .ok .rxPush ∧
  decode Ctx.atReset (.txf 0b101) = .ok .txXmit ∧
  decode Ctx.atReset (.host 0b10 TxReq.zero) = .ok .recv ∧
  decode Ctx.atReset (.rst 1) = .ok .init

/-! ## Turns -/

/-- A step runs the instruction its turn's word decodes to, after the turn is used up. -/
def Obligations.AStepRunsTheDecodedInstruction : Prop :=
  ∀ (s : State) (code : Code) (i : Instr),
    environmentTurn (nextTurn s) (afterFetch s) = none →
    fetchCode (nextTurn s) (afterFetch s) = some code →
    decode (selectCtx (afterFetch s)) code = .ok i →
    step s = exec i (afterFetch s) ∧
    afterFetch s = { s with agenda := s.agenda.tail, freeCount := s.freeCount + 1 }

/-- The environment's turns change one input each and no state element (00_scope R14, 30_encoding R79,
R80, R82, 70_reset R220). The turns are the model's choice (log 1, log 3). -/
def Obligations.EnvironmentTurnsChangeOneInput : Prop :=
  ∀ (s : State) (bytes : List Byte) (level : Bool) (t : TxReq) (p : Params),
    perform (.offer bytes) s = .next { s with lineIn := s.lineIn ++ bytes } ∧
    perform (.disturb bytes) s = .next { s with lineIn := bytes } ∧
    perform (.lineOutReady level) s = .next { s with loutReady := level } ∧
    perform (.present t) s = .next { s with txValid := true, txChan := t } ∧
    perform .withdraw s = .next { s with txValid := false } ∧
    perform (.hostReady level) s = .next { s with rxReady := level } ∧
    perform (.resetPin level) s = .next { s with rst := level } ∧
    perform (.setPins p) s = .next { s with pins := p }

/-- RXF's turn runs the step that R86 selects. That a silent line answers the unchanged state is the
model's (log 2). -/
def Obligations.RxfTurnRunsTheSelectedStep : Prop :=
  ∀ (s : State), s.rst = false →
    (∀ (b : Byte) (rest : List Byte), s.lineIn = b :: rest →
      (s.rxState = .hunt → b = 0xFF → perform .rxf s = exec .rxHuntStart s) ∧
      (s.rxState = .hunt → b ≠ 0xFF → perform .rxf s = exec (.rxHuntSkip b) s) ∧
      (s.rxState = .len → b = 0x00 → perform .rxf s = exec .rxLenCtrl s) ∧
      (s.rxState = .len → 2 ≤ b.toNat → b.toNat ≤ s.cfg.mtu →
        perform .rxf s = exec (.rxLenData b) s) ∧
      (s.rxState = .len → b ≠ 0x00 → ¬ (2 ≤ b.toNat ∧ b.toNat ≤ s.cfg.mtu) →
        perform .rxf s = exec (.rxLenBad b) s) ∧
      (s.rxState = .payload → perform .rxf s = exec (.rxPayload b) s) ∧
      (s.rxState = .cksum → b = s.rxAcc → perform .rxf s = exec (.rxCksumOk b) s) ∧
      (s.rxState = .cksum → b ≠ s.rxAcc → perform .rxf s = exec (.rxCksumBad b) s)) ∧
    (s.rxState = .push → perform .rxf s = exec .rxPush s) ∧
    (s.lineIn = [] → s.rxState ≠ .push → perform .rxf s = .next s)

/-- TXF's turn runs the step that R87 selects. -/
def Obligations.TxfTurnRunsTheSelectedStep : Prop :=
  ∀ (s : State), s.rst = false →
    (s.txState = .ctrl → perform .txf s = exec .txCtrl s) ∧
    (s.txState = .suWait → s.txTimer ≠ 0 → perform .txf s = exec .txSuTick s) ∧
    (s.txState = .suWait → s.txTimer = 0 → perform .txf s = exec .txSuSample s) ∧
    (s.txState = .check → s.txq = [] → perform .txf s = exec .txCheckEmpty s) ∧
    (s.txState = .check → s.txq ≠ [] → perform .txf s = exec .txCheckDeq s) ∧
    (s.txState = .wait1 → perform .txf s = exec .txWait1 s) ∧
    (s.txState = .gate → perform .txf s = exec .txGate s) ∧
    (s.txState = .xmit → perform .txf s = exec .txXmit s)

/-- A host turn runs the operation selected by the fire vector of the channels that have the turn (30_encoding
R78): `who` is 0b01 for the host sender alone, 0b10 for the host receiver alone, 0b11 for both in one cycle
(00_scope R14). That op 0b11 is one instruction with `rx_fire` set, and 0b00 the unchanged state, is the model's
(log 9, log 2). -/
def Obligations.HostTurnRunsTheFireVector : Prop :=
  ∀ (s : State) (who : BitVec 2), s.rst = false →
    (fireVector s &&& who = 0b00 → perform (.host who) s = .next s) ∧
    (fireVector s &&& who = 0b10 → perform (.host who) s = exec .recv s) ∧
    (∀ rxFire : Bool, fireVector s &&& who = fireOp rxFire true →
      (sendCheck s.cfg.mtu s.txChan = .accepted →
        perform (.host who) s = exec (.send rxFire s.txChan) s) ∧
      (sendCheck s.cfg.mtu s.txChan ≠ .accepted →
        perform (.host who) s = exec (.sendReject rxFire s.txChan) s))

/-- An instruction whose `await` fails changes nothing (00_scope R13, R15; log 2). -/
def Obligations.AWaitingInstructionChangesNothing : Prop :=
  ∀ (i : Instr) (s : State), enabled i s = false → exec i s = .next s

/-! ## RXF (42_receiver) -/

/-- R141. -/
def Obligations.HuntTakesAStartAndSkipsFill : Prop :=
  ∀ (s : State) (b : Byte) (rest : List Byte),
    s.rst = false → s.fault = false → s.rxState = .hunt → s.lineIn = b :: rest →
    (b = 0xFF →
      exec .rxHuntStart s = .next { s with lineIn := rest, rxAcc := 0xFF, rxState := .len }) ∧
    (b ≠ 0xFF → exec (.rxHuntSkip b) s = .next { s with lineIn := rest })

/-- R142 and R143. -/
def Obligations.LegalLengthBytesAreTaken : Prop :=
  ∀ (s : State) (b : Byte) (rest : List Byte),
    s.rst = false → s.fault = false → s.rxState = .len → s.lineIn = b :: rest →
    (b = 0x00 →
      exec .rxLenCtrl s =
        .next { s with lineIn := rest, sig := s.sig ||| 0b001, rxState := .hunt }) ∧
    (2 ≤ b.toNat → b.toNat ≤ s.cfg.mtu →
      exec (.rxLenData b) s =
        .next { s with
          lineIn := rest, rxLen := b, rxCnt := 0, rxAcc := s.rxAcc ^^^ b, rxState := .payload })

/-- R144. -/
def Obligations.ABadLengthIsALengthError : Prop :=
  ∀ (s : State) (b : Byte) (rest : List Byte),
    s.rst = false → s.fault = false → s.rxState = .len → s.lineIn = b :: rest →
    (b = 1 ∨ s.cfg.mtu < b.toNat) →
    (s.cfg.errPolicy = .fatal →
      exec (.rxLenBad b) s =
        .next { s with
          lineIn := rest, errSticky := s.errSticky ||| 0b10, fault := true,
          faultCause := .length, faultLen := b, faultByte := b, faultCalc := 0x00 }) ∧
    (s.cfg.errPolicy = .dropResync →
      exec (.rxLenBad b) s =
        .next { s with
          lineIn := rest, errSticky := s.errSticky ||| 0b10, rxState := .hunt })

/-- R145. The premise on the index holds in every state that meets the invariant. -/
def Obligations.APayloadByteIsStoredAndCounted : Prop :=
  ∀ (s : State) (b : Byte) (rest : List Byte),
    s.rst = false → s.fault = false → s.rxState = .payload → s.lineIn = b :: rest →
    s.rxCnt.toNat < s.rxBuf.length →
    exec (.rxPayload b) s =
      .next { s with
        lineIn := rest
        rxBuf := s.rxBuf.set s.rxCnt.toNat b
        rxAcc := s.rxAcc ^^^ b
        rxCnt := s.rxCnt + 1
        rxState := if s.rxCnt + 1 = s.rxLen then .cksum else .payload }

/-- R146, with its corner case: under the invariant the match is VALIDATE of the received frame. -/
def Obligations.AMatchingChecksumHoldsTheFrame : Prop :=
  ∀ (s : State) (rest : List Byte),
    s.rst = false → s.fault = false → s.rxState = .cksum → s.lineIn = s.rxAcc :: rest →
    exec (.rxCksumOk s.rxAcc) s = .next { s with lineIn := rest, rxState := .push } ∧
    (EndInv s → ∀ c : Byte,
      (c = s.rxAcc ↔ validate s.rxLen (s.rxBuf.take s.rxLen.toNat) c = true))

/-- R147. -/
def Obligations.AChecksumMismatchIsAnError : Prop :=
  ∀ (s : State) (b : Byte) (rest : List Byte),
    s.rst = false → s.fault = false → s.rxState = .cksum → s.lineIn = b :: rest → b ≠ s.rxAcc →
    (s.cfg.errPolicy = .fatal →
      exec (.rxCksumBad b) s =
        .next { s with
          lineIn := rest, errSticky := s.errSticky ||| 0b01, fault := true,
          faultCause := .checksum, faultLen := s.rxLen, faultByte := b, faultCalc := s.rxAcc }) ∧
    (s.cfg.errPolicy = .dropResync →
      exec (.rxCksumBad b) s =
        .next { s with
          lineIn := rest, errSticky := s.errSticky ||| 0b01, sig := s.sig ||| 0b010,
          rxState := .hunt })

/-- R148. The premise on the length holds in every state that meets the invariant. With RXQ full RXF is
blocked: the unchanged state (log 2). -/
def Obligations.AHeldFrameIsPushedWhenThereIsRoom : Prop :=
  ∀ s : State,
    s.rst = false → s.fault = false → s.rxState = .push → s.rxLen.toNat ≤ s.rxBuf.length →
    (s.rxq.length < s.cfg.rxqDepth →
      exec .rxPush s =
        .next { s with
          rxq := s.rxq ++ [{ len := s.rxLen, payload := s.rxBuf.take s.rxLen.toNat }]
          sig := s.sig ||| 0b010
          rxState := .hunt }) ∧
    (s.cfg.rxqDepth ≤ s.rxq.length → exec .rxPush s = .next s ∧ linReady s = false)

/-! ## Frames (30_encoding R70-R77) -/

/-- CTRL, BADLEN_SHORT and BADLEN_LONG received whole (R70, R77, R142, R144). -/
def Obligations.TwoByteFramesAreReceivedWhole : Prop :=
  ∀ (s : State) (len : Byte) (rest : List Byte),
    s.rst = false → s.fault = false → s.rxState = .hunt → s.lineIn = 0xFF :: len :: rest →
    (len = 0 →
      exec .ctrl s = .next { s with lineIn := rest, rxAcc := 0xFF, sig := s.sig ||| 0b001 }) ∧
    (∀ i : Instr, (len = 1 ∧ i = .badlenShort) ∨ (s.cfg.mtu < len.toNat ∧ i = .badlenLong len) →
      (s.cfg.errPolicy = .fatal →
        exec i s =
          .next { s with
            lineIn := rest, rxAcc := 0xFF, rxState := .len, errSticky := s.errSticky ||| 0b10,
            fault := true, faultCause := .length, faultLen := len, faultByte := len,
            faultCalc := 0 }) ∧
      (s.cfg.errPolicy = .dropResync →
        exec i s =
          .next { s with
            lineIn := rest, rxAcc := 0xFF, errSticky := s.errSticky ||| 0b10 }))

/-- A DATA frame with a matching checksum is pushed whole, or held in R_PUSH while RXQ is full
(R70, R73, R143, R145, R146, R148). -/
def Obligations.AGoodDataFrameIsReceivedWhole : Prop :=
  ∀ (s : State) (len : Byte) (p rest : List Byte),
    s.rst = false → s.fault = false → s.rxState = .hunt → s.rxBuf.length = s.cfg.mtu →
    2 ≤ len.toNat → len.toNat ≤ s.cfg.mtu → p.length = len.toNat →
    s.lineIn = dataFrame len p (cksumFrame len p) ++ rest →
    (s.rxq.length < s.cfg.rxqDepth →
      exec (.data len p (cksumFrame len p)) s =
        .next { s with
          lineIn := rest
          rxLen := len
          rxCnt := len
          rxAcc := cksumFrame len p
          rxBuf := p ++ s.rxBuf.drop len.toNat
          rxq := s.rxq ++ [{ len := len, payload := p }]
          sig := s.sig ||| 0b010 }) ∧
    (s.cfg.rxqDepth ≤ s.rxq.length →
      exec (.data len p (cksumFrame len p)) s =
        .next { s with
          lineIn := rest
          rxLen := len
          rxCnt := len
          rxAcc := cksumFrame len p
          rxBuf := p ++ s.rxBuf.drop len.toNat
          rxState := .push })

/-- A DATA frame whose checksum byte differs is never pushed (R55, R147). -/
def Obligations.ACorruptDataFrameIsNotDelivered : Prop :=
  ∀ (s : State) (len c : Byte) (p rest : List Byte),
    s.rst = false → s.fault = false → s.rxState = .hunt → s.rxBuf.length = s.cfg.mtu →
    2 ≤ len.toNat → len.toNat ≤ s.cfg.mtu → p.length = len.toNat → c ≠ cksumFrame len p →
    s.lineIn = dataFrame len p c ++ rest →
    (s.cfg.errPolicy = .fatal →
      exec (.data len p c) s =
        .next { s with
          lineIn := rest
          rxLen := len
          rxCnt := len
          rxAcc := cksumFrame len p
          rxBuf := p ++ s.rxBuf.drop len.toNat
          rxState := .cksum
          errSticky := s.errSticky ||| 0b01
          fault := true
          faultCause := .checksum
          faultLen := len
          faultByte := c
          faultCalc := cksumFrame len p }) ∧
    (s.cfg.errPolicy = .dropResync →
      exec (.data len p c) s =
        .next { s with
          lineIn := rest
          rxLen := len
          rxCnt := len
          rxAcc := cksumFrame len p
          rxBuf := p ++ s.rxBuf.drop len.toNat
          errSticky := s.errSticky ||| 0b01
          sig := s.sig ||| 0b010 })

/-- Receiving a DATA frame whole is RXF taking its turns byte by byte, then pushing if it holds a frame
(00_scope R14, 42_receiver R141-R148; log 7). -/
def Obligations.AWholeFrameIsTheRunOfItsByteSteps : Prop :=
  ∀ (s : State) (len c : Byte) (p : List Byte), enabled (.data len p c) s = true →
    exec (.data len p c) s =
      andThen (runTurns (List.replicate (len.toNat + 3) .rxf) s)
        (fun t => if t.rxState = .push then perform .rxf t else .next t)

/-! ## TXF (43_sender) -/

/-- R161. Blocked while line-out does not accept: the unchanged state (log 2). -/
def Obligations.TheCtrlFrameIsEmittedByteByByte : Prop :=
  ∀ s : State, s.rst = false → s.fault = false → s.txState = .ctrl →
    (s.loutReady = true →
      (s.txIdx = 0 →
        exec .txCtrl s = .next { s with lineOut := s.lineOut ++ [0xFF], txIdx := 1 }) ∧
      (s.txIdx ≠ 0 → s.txRet ≠ .suWait →
        exec .txCtrl s =
          .next { s with
            lineOut := s.lineOut ++ [0x00], txIdx := 0, txState := retState s.txRet }) ∧
      (s.txIdx ≠ 0 → s.txRet = .suWait →
        exec .txCtrl s =
          .next { s with
            lineOut := s.lineOut ++ [0x00], txIdx := 0, txState := .suWait,
            txTimer := s.cfg.startupInterval })) ∧
    (s.loutReady = false → exec .txCtrl s = .next s)

/-- R162 and R163. -/
def Obligations.StartupTicksThenSamplesReady : Prop :=
  ∀ s : State, s.rst = false → s.fault = false → s.txState = .suWait →
    (s.txTimer ≠ 0 → exec .txSuTick s = .next { s with txTimer := s.txTimer - 1 }) ∧
    (s.txTimer = 0 → s.sig.getLsbD 0 = true →
      exec .txSuSample s = .next { s with txState := .check }) ∧
    (s.txTimer = 0 → s.sig.getLsbD 0 = false →
      exec .txSuSample s =
        .next { s with txRet := .suWait, txIdx := 0, txState := .ctrl })

/-- R164 and R165. The premises on the packet and the buffer hold in every state that meets the
invariant. -/
def Obligations.TheQueueIsTestedAndDequeued : Prop :=
  ∀ s : State, s.rst = false → s.fault = false → s.txState = .check →
    (s.txq = [] → exec .txCheckEmpty s = .next { s with txState := .wait1 }) ∧
    (∀ (k : Packet) (rest : List Packet), s.txq = k :: rest →
      Packet.fits s.cfg.mtu k = true → s.txBuf.length = s.cfg.mtu + 3 →
      exec .txCheckDeq s =
        .next { s with
          txq := rest
          txBuf := encodePacket k ++ s.txBuf.drop (k.dlen.toNat + 5)
          txFlen := BitVec.ofNat 9 (k.dlen.toNat + 5)
          txIdx := 0
          txState := .gate })

/-- R166. Blocked while neither TXQ nor ACK is set: the unchanged state (log 2). -/
def Obligations.Wait1ServesAnAckFirst : Prop :=
  ∀ s : State, s.rst = false → s.fault = false → s.txState = .wait1 →
    (s.sig.getLsbD 1 = true →
      exec .txWait1 s =
        .next { s with
          sig := s.sig &&& 0b001, txRet := .check, txIdx := 0, txState := .ctrl }) ∧
    (s.sig.getLsbD 1 = false → s.sig.getLsbD 2 = true →
      exec .txWait1 s = .next { s with sig := s.sig &&& 0b001, txState := .check }) ∧
    (s.sig.getLsbD 1 = false → s.sig.getLsbD 2 = false → exec .txWait1 s = .next s)

/-- R167. Blocked while neither ACK nor READY is set: the unchanged state (log 2). -/
def Obligations.TheGateReleasesOnReady : Prop :=
  ∀ s : State, s.rst = false → s.fault = false → s.txState = .gate →
    (s.sig.getLsbD 1 = true → s.sig.getLsbD 0 = true →
      exec .txGate s =
        .next { s with
          sig := s.sig &&& 0b100, txRet := .xmit, txIdx := 0, txState := .ctrl }) ∧
    (s.sig.getLsbD 1 = true → s.sig.getLsbD 0 = false →
      exec .txGate s =
        .next { s with
          sig := s.sig &&& 0b100, txRet := .gate, txIdx := 0, txState := .ctrl }) ∧
    (s.sig.getLsbD 1 = false → s.sig.getLsbD 0 = true →
      exec .txGate s = .next { s with sig := s.sig &&& 0b100, txState := .xmit }) ∧
    (s.sig.getLsbD 1 = false → s.sig.getLsbD 0 = false → exec .txGate s = .next s)

/-- R168. The premise on the index holds in every state that meets the invariant. Blocked while line-out does
not accept: the unchanged state (log 2). -/
def Obligations.TheDataFrameIsEmittedByteByByte : Prop :=
  ∀ s : State, s.rst = false → s.fault = false → s.txState = .xmit →
    (s.loutReady = true → ∀ b : Byte, s.txBuf[s.txIdx.toNat]? = some b →
      (s.txIdx + 1 = s.txFlen →
        exec .txXmit s =
          .next { s with lineOut := s.lineOut ++ [b], txIdx := 0, txState := .check }) ∧
      (s.txIdx + 1 ≠ s.txFlen →
        exec .txXmit s =
          .next { s with lineOut := s.lineOut ++ [b], txIdx := s.txIdx + 1 })) ∧
    (s.loutReady = false → exec .txXmit s = .next s)

/-- TXF's turns in T_XMIT emit the held frame whole, in order, each byte once (R168, R169). -/
def Obligations.TxfEmitsTheWholeHeldFrame : Prop :=
  ∀ s : State, s.rst = false → s.fault = false → s.txState = .xmit → s.txIdx = 0 →
    s.loutReady = true → 0 < s.txFlen.toNat → s.txFlen.toNat ≤ s.txBuf.length →
    runTurns (List.replicate s.txFlen.toNat .txf) s =
      .next { s with lineOut := s.lineOut ++ heldFrame s, txState := .check }

/-! ## Host operations and reset (44_host_api) -/

/-- R191: the first failing check gives the code. -/
def Obligations.SendCheckReportsTheFirstViolation : Prop :=
  ∀ (mtu : Nat) (t : TxReq),
    (t.dlen.toNat > mtu - 2 → respCode (sendCheck mtu t) = 1) ∧
    (t.dlen.toNat ≤ mtu - 2 → t.dst.toNat > 7 → respCode (sendCheck mtu t) = 2) ∧
    (t.dlen.toNat ≤ mtu - 2 → t.dst.toNat ≤ 7 → t.src.toNat > 7 →
      respCode (sendCheck mtu t) = 3) ∧
    (t.dlen.toNat ≤ mtu - 2 → t.dst.toNat ≤ 7 → t.src.toNat ≤ 7 →
      respCode (sendCheck mtu t) = 0)

/-- R192: an accepted SEND pushes the packet and sets TXQ; with `rx_fire` the RX channel delivers RXQ's
head beside it (R78). A lane the channel's list does not give is free (log 11); a SEND
that fired lowers `tx_valid` (log 17). -/
def Obligations.AnAcceptedSendQueuesThePacket : Prop :=
  ∀ (s : State) (t : TxReq),
    s.rst = false → s.fault = false → s.txValid = true → s.txChan = t →
    sendCheck s.cfg.mtu t = .accepted → s.txq.length < s.cfg.txqDepth →
    ∃ k : Packet,
      k.route = { dst := t.dst.extractLsb' 0 3, src := t.src.extractLsb' 0 3,
                  last := t.last, func := t.func } ∧
      k.dlen = t.dlen ∧ k.data.length = t.dlen.toNat ∧
      (∀ i, i < t.dlen.toNat → i < t.data.length → k.data[i]? = t.data[i]?) ∧
      exec (.send false t) s =
        .next { s with
          txq := s.txq ++ [k], sig := s.sig ||| 0b100,
          responses := s.responses ++ [.accepted], txValid := false } ∧
      (∀ (f : FrameRec) (rest : List FrameRec) (q : Packet),
        s.rxReady = true → s.rxq = f :: rest → decodeRecord s.cfg.mtu f = some q →
        exec (.send true t) s =
          .next { s with
            txq := s.txq ++ [k], sig := s.sig ||| 0b100,
            responses := s.responses ++ [.accepted], txValid := false,
            rxq := rest, delivered := s.delivered ++ [toRxPkt q] })

/-- R194: a rejected SEND answers its code and changes no state of the block, TXQ full or not; with
`rx_fire` the RX channel delivers RXQ's head beside it (R78). A SEND that fired lowers `tx_valid`
(log 17). -/
def Obligations.ARejectedSendChangesNoBlockState : Prop :=
  ∀ (s : State) (t : TxReq),
    s.rst = false → s.fault = false → s.txValid = true → s.txChan = t →
    sendCheck s.cfg.mtu t ≠ .accepted →
    exec (.sendReject false t) s =
      .next { s with
        responses := s.responses ++ [sendCheck s.cfg.mtu t], txValid := false } ∧
    (∀ (f : FrameRec) (rest : List FrameRec) (q : Packet),
      s.rxReady = true → s.rxq = f :: rest → decodeRecord s.cfg.mtu f = some q →
      exec (.sendReject true t) s =
        .next { s with
          responses := s.responses ++ [sendCheck s.cfg.mtu t], txValid := false,
          rxq := rest, delivered := s.delivered ++ [toRxPkt q] })

/-- R195 and R106: RECV removes the head and returns its fields, ids zero-extended (R80). -/
def Obligations.RecvReturnsTheDecodedHead : Prop :=
  ∀ (s : State) (len h0 h1 : Byte) (d : List Byte) (rest : List FrameRec),
    s.rst = false → s.fault = false → s.rxReady = true →
    s.rxq = { len := len, payload := h0 :: h1 :: d } :: rest →
    len.toNat = d.length + 2 → len.toNat ≤ s.cfg.mtu →
    exec .recv s =
      .next { s with
        rxq := rest
        delivered := s.delivered ++
          [{ dst := (h0.extractLsb' 0 3).setWidth 4, src := (h0.extractLsb' 3 3).setWidth 4,
             last := h0.getLsbD 6, func := h1, dlen := len - 2, data := d }] }

/-- R197: SEND and RECV of one cycle are the two in either order. -/
def Obligations.TheHostChannelsAreIndependent : Prop :=
  ∀ (s : State) (t : TxReq),
    (enabled (.send true t) s = true →
      exec (.send true t) s = andThen (exec (.send false t) s) (exec .recv) ∧
      exec (.send true t) s = andThen (exec .recv s) (exec (.send false t))) ∧
    (enabled (.sendReject true t) s = true →
      exec (.sendReject true t) s = andThen (exec (.sendReject false t) s) (exec .recv) ∧
      exec (.sendReject true t) s = andThen (exec .recv s) (exec (.sendReject false t)))

/-- R193 and R196: a full TXQ holds a valid SEND, an empty RXQ holds RECV. Held: the unchanged state
(log 2). -/
def Obligations.HostOperationsWaitForTheQueues : Prop :=
  ∀ (s : State) (t : TxReq) (rxFire : Bool),
    (s.txChan = t → sendCheck s.cfg.mtu t = .accepted → s.cfg.txqDepth ≤ s.txq.length →
      txReady s = false ∧ exec (.send rxFire t) s = .next s) ∧
    (s.rxq = [] → rxValid s = false ∧ exec .recv s = .next s)

/-- R190: while `rst = 1`, from any state, every element takes its reset value, the buffers take
unspecified bytes, and the configuration inputs are sampled (R36). The port inputs and the record of
transfers stay as they are (log 16). -/
def Obligations.InitTakesTheResetValues : Prop :=
  ∀ s : State, s.rst = true →
    ∃ rb tb : List Byte, rb.length = s.pins.mtu ∧ tb.length = s.pins.mtu + 3 ∧
      exec .init s =
        .next { s with
          rxState := .hunt, rxLen := 0, rxCnt := 0, rxAcc := 0, rxBuf := rb,
          txState := .ctrl, txRet := .suWait, txIdx := 0, txTimer := 0, txBuf := tb, txFlen := 0,
          sig := 0b000, txq := [], rxq := [], fault := false, faultCause := .none, faultLen := 0,
          faultByte := 0, faultCalc := 0, errSticky := 0b00, cfg := s.pins }

/-! ## Faults (60_exceptions) -/

/-- R202: while `fault = 1` no instruction changes anything, and the ports show it. -/
def Obligations.TheFaultedBlockIsQuiescent : Prop :=
  ∀ s : State, s.fault = true →
    (∀ i : Instr, i ≠ .init → exec i s = .next s) ∧
    linReady s = false ∧ loutValid s = false ∧ txReady s = false ∧ rxValid s = false

/-- R201: a step enters the fault state only under FATAL; it records a cause, sets that cause's `err_sticky` bit
and takes line bytes. Apart from RXF's own registers nothing else changes, and these change only in the turn of a
whole frame (log 7), whose earlier byte steps are no fault entry: RXF's own turn keeps them, takes one byte, and
records it. The turn used up is the model's (log 1, log 22). -/
def Obligations.AFaultIsPrecise : Prop :=
  ∀ s t : State, step s = .next t → s.fault = false → t.fault = true →
    t.cfg.errPolicy = .fatal ∧
    ((t.faultCause = .checksum ∧ t.errSticky = s.errSticky ||| 0b01 ∧ t.rxState = .cksum ∧
        t.faultLen = t.rxLen ∧ t.faultCalc = t.rxAcc) ∨
     (t.faultCause = .length ∧ t.errSticky = s.errSticky ||| 0b10 ∧ t.rxState = .len ∧
        t.faultLen = t.faultByte ∧ t.faultCalc = 0)) ∧
    t = { s with
      agenda := s.agenda.tail, freeCount := s.freeCount + 1,
      fault := true, faultCause := t.faultCause, faultLen := t.faultLen,
      faultByte := t.faultByte, faultCalc := t.faultCalc, errSticky := t.errSticky,
      lineIn := t.lineIn, rxState := t.rxState, rxLen := t.rxLen, rxCnt := t.rxCnt,
      rxAcc := t.rxAcc, rxBuf := t.rxBuf } ∧
    (nextTurn s ≠ .frame →
      t.rxState = s.rxState ∧ t.rxLen = s.rxLen ∧ t.rxCnt = s.rxCnt ∧ t.rxAcc = s.rxAcc ∧
      t.rxBuf = s.rxBuf ∧ s.lineIn = t.faultByte :: t.lineIn)

/-- R203: only reset leaves the fault state. -/
def Obligations.OnlyResetLeavesTheFaultState : Prop :=
  ∀ s t : State, step s = .next t → s.fault = true → t.fault = false →
    s.rst = true ∧ t.faultCause = .none ∧ t.faultLen = 0 ∧ t.faultByte = 0 ∧ t.faultCalc = 0 ∧
    t.errSticky = 0

/-- R35: `err_sticky` bits are only ever set until reset. -/
def Obligations.StickyBitsAreNeverClearedButByReset : Prop :=
  ∀ s t : State, step s = .next t → s.rst = false → s.errSticky &&& t.errSticky = s.errSticky

/-- R36: the configuration changes at reset only, to the sampled inputs. -/
def Obligations.TheConfigurationChangesAtResetOnly : Prop :=
  ∀ s t : State, step s = .next t → t.cfg = s.cfg ∨ (s.rst = true ∧ t.cfg = s.pins)

/-! ## Ports (10_state R39, 30_encoding R82, R83) -/

/-- Every output is 0 while `rst = 1` (R39, R83, R220). -/
def Obligations.OutputsAreZeroDuringReset : Prop :=
  ∀ s : State, s.rst = true →
    linReady s = false ∧ loutValid s = false ∧ loutData s = 0 ∧ txReady s = false ∧
    rxValid s = false ∧ startupDone s = false ∧
    rxPkt s = { dst := 0, src := 0, last := false, func := 0, dlen := 0, data := [] } ∧
    status s = { fault := false, faultCause := 0, faultLen := 0, faultByte := 0, faultCalc := 0,
                 errSticky := 0 }

/-- RXF's turn takes the byte offered exactly when `lin_ready = 1` (R82, R140). -/
def Obligations.ALineByteIsTakenExactlyWhenReady : Prop :=
  ∀ (s t : State) (b : Byte) (rest : List Byte), perform .rxf s = .next t → s.lineIn = b :: rest →
    t.lineIn = if linReady s then rest else s.lineIn

/-- TXF's turn hands `lout_data` to the line exactly when `lout_valid` and `lout_ready` are 1
(R82, R160). -/
def Obligations.ALineByteLeavesExactlyWhenValidAndReady : Prop :=
  ∀ s t : State, perform .txf s = .next t →
    t.lineOut = s.lineOut ++ (if loutValid s && s.loutReady then [loutData s] else [])

/-- In a turn of the host sender (bit 0 of `who`), of the host receiver (bit 1) or of both, each channel that
has the turn transfers exactly when valid and ready are both 1, with the code of SEND_CHECK and the packet the RX
channel shows, and a channel that has no turn does not transfer (R78-R81, 00_scope R14). -/
def Obligations.HostTransfersFireExactlyWhenValidAndReady : Prop :=
  ∀ (s t : State) (who : BitVec 2), perform (.host who) s = .next t →
    t.responses = s.responses ++
      (if who.getLsbD 0 && (s.txValid && txReady s) then [sendCheck s.cfg.mtu s.txChan] else []) ∧
    t.delivered = s.delivered ++
      (if who.getLsbD 1 && (rxValid s && s.rxReady) then [rxPkt s] else [])

/-- Outside reset, a step leaves each queue, appends one element, or removes its head (R120-R122). -/
def Obligations.TheQueuesAreFifos : Prop :=
  ∀ s t : State, step s = .next t → s.rst = false →
    (t.txq = s.txq ∨ (∃ k, t.txq = s.txq ++ [k]) ∨ (∃ k, s.txq = k :: t.txq)) ∧
    (t.rxq = s.rxq ∨ (∃ f, t.rxq = s.rxq ++ [f]) ∨ (∃ f, s.rxq = f :: t.rxq))

/-! ## Codec (40_codec) -/

/-- R107, the round trip, with ENCODE's bytes (R104): the payload is the packed header, whose reserved bit is 0
(R76), then the data, and the checksum is CKSUM_FRAME. -/
def Obligations.DecodingAnEncodedPacketGivesItBack : Prop :=
  ∀ (mtu : Nat) (k : Packet), 2 ≤ mtu → mtu ≤ 255 → Packet.fits mtu k = true →
    ∃ (len c : Byte) (p : List Byte),
      encodePacket k = 0xFF :: len :: (p ++ [c]) ∧ p = pack k.route ++ k.data ∧
      p[0]?.map (·.getLsbD 7) = some false ∧ p.length = len.toNat ∧
      len.toNat = k.dlen.toNat + 2 ∧ c = cksumFrame len p ∧ validate len p c = true ∧
      decodeRecord mtu { len := len, payload := p } = some k

/-- R103: UNPACK's fields, and its two laws with PACK. -/
def Obligations.UnpackInvertsPack : Prop :=
  (∀ r : Route, ∃ h0 h1, pack r = [h0, h1] ∧ unpack h0 h1 = r ∧ h0.getLsbD 7 = false) ∧
  (∀ h0 h1 : Byte, pack (unpack h0 h1) = [h0 &&& 0x7F, h1]) ∧
  (∀ h0 h1 : Byte, unpack h0 h1 =
    { dst := h0.extractLsb' 0 3, src := h0.extractLsb' 3 3, last := h0.getLsbD 6, func := h1 })

/-- R108: with the boundaries fixed, a corruption of a valid frame is detected if and only if the XOR of
its error bytes is not zero. -/
def Obligations.ACorruptionIsDetectedIffItsXorIsNotZero : Prop :=
  ∀ (len c eLen eC : Byte) (p e : List Byte), e.length = p.length → validate len p c = true →
    (validate (len ^^^ eLen) (List.zipWith (· ^^^ ·) p e) (c ^^^ eC) = false ↔
      eLen ^^^ cksum e ^^^ eC ≠ 0)

/-! ## Signals and startup -/

/-- R131: which step sets and which consumes each signal, and no other touches `sig`. -/
def Obligations.SignalsChangeAsTheirTableSays : Prop :=
  ∀ (i : Instr) (s t : State), exec i s = .next t → enabled i s = true →
    i ≠ .ctrl → (∀ len p c, i ≠ .data len p c) → i ≠ .init →
    t.sig = (s.sig &&& ~~~ clearMask i) ||| setMask s.cfg.errPolicy i

/-- R171: startup is not entered again before the next reset. -/
def Obligations.StartupRunsOncePerReset : Prop :=
  ∀ s t : State, step s = .next t → startupDone s = true → t.rst = false → startupDone t = true

/-! ## The clock cycle (41_queues_signals R123, R130; 70_reset R234) -/

/-- R234, R123: the combined effect of one cycle's steps is that of one interleaving of them. The cycle function
is the model's form of the register-transfer realisation (log 19); it advances the step counter once (log 22). -/
def Obligations.ACycleIsOneInterleaving : Prop :=
  ∀ s : State, cycle s = runTurns (cycleSchedule s) (tick s)

/-- R130: `sig_next = (sig & ~clr) | set`. The cycle function is the model's (log 19). -/
def Obligations.ACycleCombinesSignalsConsumeThenSet : Prop :=
  ∀ s t : State, s.rst = false → cycle s = .next t →
    t.sig = sigNext s.sig (orMasks clearMask (cycleInstrs s))
      (orMasks (setMask s.cfg.errPolicy) (cycleInstrs s))

/-! ## Two ends on an ideal line (60_exceptions R210) -/

/-- A link right after a common reset release meets the link's invariant. -/
def Obligations.TheResetLinkMeetsTheLinkInvariant : Prop := LinkInv linkReset

/-- Every turn of either end on an ideal line goes on and keeps the link's invariant: no receive error, no
loss, and packets delivered in the order accepted (R58). -/
def Obligations.AnIdealLineDeliversInOrder : Prop :=
  ∀ (l : Link) (side : Side) (t : Turn), LinkInv l → linkTurn t = true →
    ∃ l', linkStep side t l = some l' ∧ LinkInv l'

/-- R227 (a): after startup the credit total of a direction never grows, falls by at most one a step, and
never reaches 0 once it is 1. -/
def Obligations.TheCreditTotalNeverGrowsAfterStartup : Prop :=
  ∀ (l l' : Link) (side : Side) (t : Turn), LinkInv l → linkTurn t = true →
    startupDone l.a = true → startupDone l.b = true → linkStep side t l = some l' →
    (creditTotal l'.a l'.b ≤ creditTotal l.a l.b ∧
      creditTotal l.a l.b ≤ creditTotal l'.a l'.b + 1 ∧
      (1 ≤ creditTotal l.a l.b → 1 ≤ creditTotal l'.a l'.b)) ∧
    (creditTotal l'.b l'.a ≤ creditTotal l.b l.a ∧
      creditTotal l.b l.a ≤ creditTotal l'.b l'.a + 1 ∧
      (1 ≤ creditTotal l.b l.a → 1 ≤ creditTotal l'.b l'.a))
end

