-- ==== Sys2Proof/Laws/State.lean ====
section
/-! SUPPORT. What each named update of the state does to each field, so that no proof unfolds a record
update: one lemma per field and update, true by rfl. -/

namespace Sys2Proof.Machine

variable (s : State)

/-! ## takeByte -/

@[simp] theorem takeByte_rxState : (takeByte s).rxState = s.rxState := rfl
@[simp] theorem takeByte_rxLen : (takeByte s).rxLen = s.rxLen := rfl
@[simp] theorem takeByte_rxCnt : (takeByte s).rxCnt = s.rxCnt := rfl
@[simp] theorem takeByte_rxAcc : (takeByte s).rxAcc = s.rxAcc := rfl
@[simp] theorem takeByte_rxBuf : (takeByte s).rxBuf = s.rxBuf := rfl
@[simp] theorem takeByte_txState : (takeByte s).txState = s.txState := rfl
@[simp] theorem takeByte_txRet : (takeByte s).txRet = s.txRet := rfl
@[simp] theorem takeByte_txIdx : (takeByte s).txIdx = s.txIdx := rfl
@[simp] theorem takeByte_txTimer : (takeByte s).txTimer = s.txTimer := rfl
@[simp] theorem takeByte_txBuf : (takeByte s).txBuf = s.txBuf := rfl
@[simp] theorem takeByte_txFlen : (takeByte s).txFlen = s.txFlen := rfl
@[simp] theorem takeByte_sig : (takeByte s).sig = s.sig := rfl
@[simp] theorem takeByte_txq : (takeByte s).txq = s.txq := rfl
@[simp] theorem takeByte_rxq : (takeByte s).rxq = s.rxq := rfl
@[simp] theorem takeByte_fault : (takeByte s).fault = s.fault := rfl
@[simp] theorem takeByte_faultCause : (takeByte s).faultCause = s.faultCause := rfl
@[simp] theorem takeByte_faultLen : (takeByte s).faultLen = s.faultLen := rfl
@[simp] theorem takeByte_faultByte : (takeByte s).faultByte = s.faultByte := rfl
@[simp] theorem takeByte_faultCalc : (takeByte s).faultCalc = s.faultCalc := rfl
@[simp] theorem takeByte_errSticky : (takeByte s).errSticky = s.errSticky := rfl
@[simp] theorem takeByte_cfg : (takeByte s).cfg = s.cfg := rfl
@[simp] theorem takeByte_pins : (takeByte s).pins = s.pins := rfl
@[simp] theorem takeByte_rst : (takeByte s).rst = s.rst := rfl
@[simp] theorem takeByte_lineIn : (takeByte s).lineIn = s.lineIn.tail := rfl
@[simp] theorem takeByte_loutReady : (takeByte s).loutReady = s.loutReady := rfl
@[simp] theorem takeByte_txValid : (takeByte s).txValid = s.txValid := rfl
@[simp] theorem takeByte_txChan : (takeByte s).txChan = s.txChan := rfl
@[simp] theorem takeByte_rxReady : (takeByte s).rxReady = s.rxReady := rfl
@[simp] theorem takeByte_lineOut : (takeByte s).lineOut = s.lineOut := rfl
@[simp] theorem takeByte_responses : (takeByte s).responses = s.responses := rfl
@[simp] theorem takeByte_delivered : (takeByte s).delivered = s.delivered := rfl
@[simp] theorem takeByte_agenda : (takeByte s).agenda = s.agenda := rfl
@[simp] theorem takeByte_freeCount : (takeByte s).freeCount = s.freeCount := rfl

/-! ## emit -/

@[simp] theorem emit_rxState (b : Byte) : (emit b s).rxState = s.rxState := rfl
@[simp] theorem emit_rxLen (b : Byte) : (emit b s).rxLen = s.rxLen := rfl
@[simp] theorem emit_rxCnt (b : Byte) : (emit b s).rxCnt = s.rxCnt := rfl
@[simp] theorem emit_rxAcc (b : Byte) : (emit b s).rxAcc = s.rxAcc := rfl
@[simp] theorem emit_rxBuf (b : Byte) : (emit b s).rxBuf = s.rxBuf := rfl
@[simp] theorem emit_txState (b : Byte) : (emit b s).txState = s.txState := rfl
@[simp] theorem emit_txRet (b : Byte) : (emit b s).txRet = s.txRet := rfl
@[simp] theorem emit_txIdx (b : Byte) : (emit b s).txIdx = s.txIdx := rfl
@[simp] theorem emit_txTimer (b : Byte) : (emit b s).txTimer = s.txTimer := rfl
@[simp] theorem emit_txBuf (b : Byte) : (emit b s).txBuf = s.txBuf := rfl
@[simp] theorem emit_txFlen (b : Byte) : (emit b s).txFlen = s.txFlen := rfl
@[simp] theorem emit_sig (b : Byte) : (emit b s).sig = s.sig := rfl
@[simp] theorem emit_txq (b : Byte) : (emit b s).txq = s.txq := rfl
@[simp] theorem emit_rxq (b : Byte) : (emit b s).rxq = s.rxq := rfl
@[simp] theorem emit_fault (b : Byte) : (emit b s).fault = s.fault := rfl
@[simp] theorem emit_faultCause (b : Byte) : (emit b s).faultCause = s.faultCause := rfl
@[simp] theorem emit_faultLen (b : Byte) : (emit b s).faultLen = s.faultLen := rfl
@[simp] theorem emit_faultByte (b : Byte) : (emit b s).faultByte = s.faultByte := rfl
@[simp] theorem emit_faultCalc (b : Byte) : (emit b s).faultCalc = s.faultCalc := rfl
@[simp] theorem emit_errSticky (b : Byte) : (emit b s).errSticky = s.errSticky := rfl
@[simp] theorem emit_cfg (b : Byte) : (emit b s).cfg = s.cfg := rfl
@[simp] theorem emit_pins (b : Byte) : (emit b s).pins = s.pins := rfl
@[simp] theorem emit_rst (b : Byte) : (emit b s).rst = s.rst := rfl
@[simp] theorem emit_lineIn (b : Byte) : (emit b s).lineIn = s.lineIn := rfl
@[simp] theorem emit_loutReady (b : Byte) : (emit b s).loutReady = s.loutReady := rfl
@[simp] theorem emit_txValid (b : Byte) : (emit b s).txValid = s.txValid := rfl
@[simp] theorem emit_txChan (b : Byte) : (emit b s).txChan = s.txChan := rfl
@[simp] theorem emit_rxReady (b : Byte) : (emit b s).rxReady = s.rxReady := rfl
@[simp] theorem emit_lineOut (b : Byte) : (emit b s).lineOut = s.lineOut ++ [b] := rfl
@[simp] theorem emit_responses (b : Byte) : (emit b s).responses = s.responses := rfl
@[simp] theorem emit_delivered (b : Byte) : (emit b s).delivered = s.delivered := rfl
@[simp] theorem emit_agenda (b : Byte) : (emit b s).agenda = s.agenda := rfl
@[simp] theorem emit_freeCount (b : Byte) : (emit b s).freeCount = s.freeCount := rfl

/-! ## raiseSignal -/

@[simp] theorem raiseSignal_rxState (x : Signal) : (raiseSignal x s).rxState = s.rxState := rfl
@[simp] theorem raiseSignal_rxLen (x : Signal) : (raiseSignal x s).rxLen = s.rxLen := rfl
@[simp] theorem raiseSignal_rxCnt (x : Signal) : (raiseSignal x s).rxCnt = s.rxCnt := rfl
@[simp] theorem raiseSignal_rxAcc (x : Signal) : (raiseSignal x s).rxAcc = s.rxAcc := rfl
@[simp] theorem raiseSignal_rxBuf (x : Signal) : (raiseSignal x s).rxBuf = s.rxBuf := rfl
@[simp] theorem raiseSignal_txState (x : Signal) : (raiseSignal x s).txState = s.txState := rfl
@[simp] theorem raiseSignal_txRet (x : Signal) : (raiseSignal x s).txRet = s.txRet := rfl
@[simp] theorem raiseSignal_txIdx (x : Signal) : (raiseSignal x s).txIdx = s.txIdx := rfl
@[simp] theorem raiseSignal_txTimer (x : Signal) : (raiseSignal x s).txTimer = s.txTimer := rfl
@[simp] theorem raiseSignal_txBuf (x : Signal) : (raiseSignal x s).txBuf = s.txBuf := rfl
@[simp] theorem raiseSignal_txFlen (x : Signal) : (raiseSignal x s).txFlen = s.txFlen := rfl
@[simp] theorem raiseSignal_sig (x : Signal) : (raiseSignal x s).sig = sigSet x s.sig := rfl
@[simp] theorem raiseSignal_txq (x : Signal) : (raiseSignal x s).txq = s.txq := rfl
@[simp] theorem raiseSignal_rxq (x : Signal) : (raiseSignal x s).rxq = s.rxq := rfl
@[simp] theorem raiseSignal_fault (x : Signal) : (raiseSignal x s).fault = s.fault := rfl
@[simp] theorem raiseSignal_faultCause (x : Signal) :
    (raiseSignal x s).faultCause = s.faultCause := rfl
@[simp] theorem raiseSignal_faultLen (x : Signal) : (raiseSignal x s).faultLen = s.faultLen := rfl
@[simp] theorem raiseSignal_faultByte (x : Signal) :
    (raiseSignal x s).faultByte = s.faultByte := rfl
@[simp] theorem raiseSignal_faultCalc (x : Signal) :
    (raiseSignal x s).faultCalc = s.faultCalc := rfl
@[simp] theorem raiseSignal_errSticky (x : Signal) :
    (raiseSignal x s).errSticky = s.errSticky := rfl
@[simp] theorem raiseSignal_cfg (x : Signal) : (raiseSignal x s).cfg = s.cfg := rfl
@[simp] theorem raiseSignal_pins (x : Signal) : (raiseSignal x s).pins = s.pins := rfl
@[simp] theorem raiseSignal_rst (x : Signal) : (raiseSignal x s).rst = s.rst := rfl
@[simp] theorem raiseSignal_lineIn (x : Signal) : (raiseSignal x s).lineIn = s.lineIn := rfl
@[simp] theorem raiseSignal_loutReady (x : Signal) :
    (raiseSignal x s).loutReady = s.loutReady := rfl
@[simp] theorem raiseSignal_txValid (x : Signal) : (raiseSignal x s).txValid = s.txValid := rfl
@[simp] theorem raiseSignal_txChan (x : Signal) : (raiseSignal x s).txChan = s.txChan := rfl
@[simp] theorem raiseSignal_rxReady (x : Signal) : (raiseSignal x s).rxReady = s.rxReady := rfl
@[simp] theorem raiseSignal_lineOut (x : Signal) : (raiseSignal x s).lineOut = s.lineOut := rfl
@[simp] theorem raiseSignal_responses (x : Signal) :
    (raiseSignal x s).responses = s.responses := rfl
@[simp] theorem raiseSignal_delivered (x : Signal) :
    (raiseSignal x s).delivered = s.delivered := rfl
@[simp] theorem raiseSignal_agenda (x : Signal) : (raiseSignal x s).agenda = s.agenda := rfl
@[simp] theorem raiseSignal_freeCount (x : Signal) :
    (raiseSignal x s).freeCount = s.freeCount := rfl

/-! ## consumeSignals -/

@[simp] theorem consumeSignals_rxState (m : BitVec 3) :
    (consumeSignals m s).rxState = s.rxState := rfl
@[simp] theorem consumeSignals_rxLen (m : BitVec 3) : (consumeSignals m s).rxLen = s.rxLen := rfl
@[simp] theorem consumeSignals_rxCnt (m : BitVec 3) : (consumeSignals m s).rxCnt = s.rxCnt := rfl
@[simp] theorem consumeSignals_rxAcc (m : BitVec 3) : (consumeSignals m s).rxAcc = s.rxAcc := rfl
@[simp] theorem consumeSignals_rxBuf (m : BitVec 3) : (consumeSignals m s).rxBuf = s.rxBuf := rfl
@[simp] theorem consumeSignals_txState (m : BitVec 3) :
    (consumeSignals m s).txState = s.txState := rfl
@[simp] theorem consumeSignals_txRet (m : BitVec 3) : (consumeSignals m s).txRet = s.txRet := rfl
@[simp] theorem consumeSignals_txIdx (m : BitVec 3) : (consumeSignals m s).txIdx = s.txIdx := rfl
@[simp] theorem consumeSignals_txTimer (m : BitVec 3) :
    (consumeSignals m s).txTimer = s.txTimer := rfl
@[simp] theorem consumeSignals_txBuf (m : BitVec 3) : (consumeSignals m s).txBuf = s.txBuf := rfl
@[simp] theorem consumeSignals_txFlen (m : BitVec 3) : (consumeSignals m s).txFlen = s.txFlen := rfl
@[simp] theorem consumeSignals_sig (m : BitVec 3) :
    (consumeSignals m s).sig = sigConsumed m s.sig := rfl
@[simp] theorem consumeSignals_txq (m : BitVec 3) : (consumeSignals m s).txq = s.txq := rfl
@[simp] theorem consumeSignals_rxq (m : BitVec 3) : (consumeSignals m s).rxq = s.rxq := rfl
@[simp] theorem consumeSignals_fault (m : BitVec 3) : (consumeSignals m s).fault = s.fault := rfl
@[simp] theorem consumeSignals_faultCause (m : BitVec 3) :
    (consumeSignals m s).faultCause = s.faultCause := rfl
@[simp] theorem consumeSignals_faultLen (m : BitVec 3) :
    (consumeSignals m s).faultLen = s.faultLen := rfl
@[simp] theorem consumeSignals_faultByte (m : BitVec 3) :
    (consumeSignals m s).faultByte = s.faultByte := rfl
@[simp] theorem consumeSignals_faultCalc (m : BitVec 3) :
    (consumeSignals m s).faultCalc = s.faultCalc := rfl
@[simp] theorem consumeSignals_errSticky (m : BitVec 3) :
    (consumeSignals m s).errSticky = s.errSticky := rfl
@[simp] theorem consumeSignals_cfg (m : BitVec 3) : (consumeSignals m s).cfg = s.cfg := rfl
@[simp] theorem consumeSignals_pins (m : BitVec 3) : (consumeSignals m s).pins = s.pins := rfl
@[simp] theorem consumeSignals_rst (m : BitVec 3) : (consumeSignals m s).rst = s.rst := rfl
@[simp] theorem consumeSignals_lineIn (m : BitVec 3) : (consumeSignals m s).lineIn = s.lineIn := rfl
@[simp] theorem consumeSignals_loutReady (m : BitVec 3) :
    (consumeSignals m s).loutReady = s.loutReady := rfl
@[simp] theorem consumeSignals_txValid (m : BitVec 3) :
    (consumeSignals m s).txValid = s.txValid := rfl
@[simp] theorem consumeSignals_txChan (m : BitVec 3) : (consumeSignals m s).txChan = s.txChan := rfl
@[simp] theorem consumeSignals_rxReady (m : BitVec 3) :
    (consumeSignals m s).rxReady = s.rxReady := rfl
@[simp] theorem consumeSignals_lineOut (m : BitVec 3) :
    (consumeSignals m s).lineOut = s.lineOut := rfl
@[simp] theorem consumeSignals_responses (m : BitVec 3) :
    (consumeSignals m s).responses = s.responses := rfl
@[simp] theorem consumeSignals_delivered (m : BitVec 3) :
    (consumeSignals m s).delivered = s.delivered := rfl
@[simp] theorem consumeSignals_agenda (m : BitVec 3) : (consumeSignals m s).agenda = s.agenda := rfl
@[simp] theorem consumeSignals_freeCount (m : BitVec 3) :
    (consumeSignals m s).freeCount = s.freeCount := rfl

/-! ## pushTxq -/

@[simp] theorem pushTxq_rxState (k : Packet) : (pushTxq k s).rxState = s.rxState := rfl
@[simp] theorem pushTxq_rxLen (k : Packet) : (pushTxq k s).rxLen = s.rxLen := rfl
@[simp] theorem pushTxq_rxCnt (k : Packet) : (pushTxq k s).rxCnt = s.rxCnt := rfl
@[simp] theorem pushTxq_rxAcc (k : Packet) : (pushTxq k s).rxAcc = s.rxAcc := rfl
@[simp] theorem pushTxq_rxBuf (k : Packet) : (pushTxq k s).rxBuf = s.rxBuf := rfl
@[simp] theorem pushTxq_txState (k : Packet) : (pushTxq k s).txState = s.txState := rfl
@[simp] theorem pushTxq_txRet (k : Packet) : (pushTxq k s).txRet = s.txRet := rfl
@[simp] theorem pushTxq_txIdx (k : Packet) : (pushTxq k s).txIdx = s.txIdx := rfl
@[simp] theorem pushTxq_txTimer (k : Packet) : (pushTxq k s).txTimer = s.txTimer := rfl
@[simp] theorem pushTxq_txBuf (k : Packet) : (pushTxq k s).txBuf = s.txBuf := rfl
@[simp] theorem pushTxq_txFlen (k : Packet) : (pushTxq k s).txFlen = s.txFlen := rfl
@[simp] theorem pushTxq_sig (k : Packet) : (pushTxq k s).sig = s.sig := rfl
@[simp] theorem pushTxq_txq (k : Packet) : (pushTxq k s).txq = s.txq ++ [k] := rfl
@[simp] theorem pushTxq_rxq (k : Packet) : (pushTxq k s).rxq = s.rxq := rfl
@[simp] theorem pushTxq_fault (k : Packet) : (pushTxq k s).fault = s.fault := rfl
@[simp] theorem pushTxq_faultCause (k : Packet) : (pushTxq k s).faultCause = s.faultCause := rfl
@[simp] theorem pushTxq_faultLen (k : Packet) : (pushTxq k s).faultLen = s.faultLen := rfl
@[simp] theorem pushTxq_faultByte (k : Packet) : (pushTxq k s).faultByte = s.faultByte := rfl
@[simp] theorem pushTxq_faultCalc (k : Packet) : (pushTxq k s).faultCalc = s.faultCalc := rfl
@[simp] theorem pushTxq_errSticky (k : Packet) : (pushTxq k s).errSticky = s.errSticky := rfl
@[simp] theorem pushTxq_cfg (k : Packet) : (pushTxq k s).cfg = s.cfg := rfl
@[simp] theorem pushTxq_pins (k : Packet) : (pushTxq k s).pins = s.pins := rfl
@[simp] theorem pushTxq_rst (k : Packet) : (pushTxq k s).rst = s.rst := rfl
@[simp] theorem pushTxq_lineIn (k : Packet) : (pushTxq k s).lineIn = s.lineIn := rfl
@[simp] theorem pushTxq_loutReady (k : Packet) : (pushTxq k s).loutReady = s.loutReady := rfl
@[simp] theorem pushTxq_txValid (k : Packet) : (pushTxq k s).txValid = s.txValid := rfl
@[simp] theorem pushTxq_txChan (k : Packet) : (pushTxq k s).txChan = s.txChan := rfl
@[simp] theorem pushTxq_rxReady (k : Packet) : (pushTxq k s).rxReady = s.rxReady := rfl
@[simp] theorem pushTxq_lineOut (k : Packet) : (pushTxq k s).lineOut = s.lineOut := rfl
@[simp] theorem pushTxq_responses (k : Packet) : (pushTxq k s).responses = s.responses := rfl
@[simp] theorem pushTxq_delivered (k : Packet) : (pushTxq k s).delivered = s.delivered := rfl
@[simp] theorem pushTxq_agenda (k : Packet) : (pushTxq k s).agenda = s.agenda := rfl
@[simp] theorem pushTxq_freeCount (k : Packet) : (pushTxq k s).freeCount = s.freeCount := rfl

/-! ## pushRxq -/

@[simp] theorem pushRxq_rxState (f : FrameRec) : (pushRxq f s).rxState = s.rxState := rfl
@[simp] theorem pushRxq_rxLen (f : FrameRec) : (pushRxq f s).rxLen = s.rxLen := rfl
@[simp] theorem pushRxq_rxCnt (f : FrameRec) : (pushRxq f s).rxCnt = s.rxCnt := rfl
@[simp] theorem pushRxq_rxAcc (f : FrameRec) : (pushRxq f s).rxAcc = s.rxAcc := rfl
@[simp] theorem pushRxq_rxBuf (f : FrameRec) : (pushRxq f s).rxBuf = s.rxBuf := rfl
@[simp] theorem pushRxq_txState (f : FrameRec) : (pushRxq f s).txState = s.txState := rfl
@[simp] theorem pushRxq_txRet (f : FrameRec) : (pushRxq f s).txRet = s.txRet := rfl
@[simp] theorem pushRxq_txIdx (f : FrameRec) : (pushRxq f s).txIdx = s.txIdx := rfl
@[simp] theorem pushRxq_txTimer (f : FrameRec) : (pushRxq f s).txTimer = s.txTimer := rfl
@[simp] theorem pushRxq_txBuf (f : FrameRec) : (pushRxq f s).txBuf = s.txBuf := rfl
@[simp] theorem pushRxq_txFlen (f : FrameRec) : (pushRxq f s).txFlen = s.txFlen := rfl
@[simp] theorem pushRxq_sig (f : FrameRec) : (pushRxq f s).sig = s.sig := rfl
@[simp] theorem pushRxq_txq (f : FrameRec) : (pushRxq f s).txq = s.txq := rfl
@[simp] theorem pushRxq_rxq (f : FrameRec) : (pushRxq f s).rxq = s.rxq ++ [f] := rfl
@[simp] theorem pushRxq_fault (f : FrameRec) : (pushRxq f s).fault = s.fault := rfl
@[simp] theorem pushRxq_faultCause (f : FrameRec) : (pushRxq f s).faultCause = s.faultCause := rfl
@[simp] theorem pushRxq_faultLen (f : FrameRec) : (pushRxq f s).faultLen = s.faultLen := rfl
@[simp] theorem pushRxq_faultByte (f : FrameRec) : (pushRxq f s).faultByte = s.faultByte := rfl
@[simp] theorem pushRxq_faultCalc (f : FrameRec) : (pushRxq f s).faultCalc = s.faultCalc := rfl
@[simp] theorem pushRxq_errSticky (f : FrameRec) : (pushRxq f s).errSticky = s.errSticky := rfl
@[simp] theorem pushRxq_cfg (f : FrameRec) : (pushRxq f s).cfg = s.cfg := rfl
@[simp] theorem pushRxq_pins (f : FrameRec) : (pushRxq f s).pins = s.pins := rfl
@[simp] theorem pushRxq_rst (f : FrameRec) : (pushRxq f s).rst = s.rst := rfl
@[simp] theorem pushRxq_lineIn (f : FrameRec) : (pushRxq f s).lineIn = s.lineIn := rfl
@[simp] theorem pushRxq_loutReady (f : FrameRec) : (pushRxq f s).loutReady = s.loutReady := rfl
@[simp] theorem pushRxq_txValid (f : FrameRec) : (pushRxq f s).txValid = s.txValid := rfl
@[simp] theorem pushRxq_txChan (f : FrameRec) : (pushRxq f s).txChan = s.txChan := rfl
@[simp] theorem pushRxq_rxReady (f : FrameRec) : (pushRxq f s).rxReady = s.rxReady := rfl
@[simp] theorem pushRxq_lineOut (f : FrameRec) : (pushRxq f s).lineOut = s.lineOut := rfl
@[simp] theorem pushRxq_responses (f : FrameRec) : (pushRxq f s).responses = s.responses := rfl
@[simp] theorem pushRxq_delivered (f : FrameRec) : (pushRxq f s).delivered = s.delivered := rfl
@[simp] theorem pushRxq_agenda (f : FrameRec) : (pushRxq f s).agenda = s.agenda := rfl
@[simp] theorem pushRxq_freeCount (f : FrameRec) : (pushRxq f s).freeCount = s.freeCount := rfl

/-! ## setSticky -/

@[simp] theorem setSticky_rxState (m : BitVec 2) : (setSticky m s).rxState = s.rxState := rfl
@[simp] theorem setSticky_rxLen (m : BitVec 2) : (setSticky m s).rxLen = s.rxLen := rfl
@[simp] theorem setSticky_rxCnt (m : BitVec 2) : (setSticky m s).rxCnt = s.rxCnt := rfl
@[simp] theorem setSticky_rxAcc (m : BitVec 2) : (setSticky m s).rxAcc = s.rxAcc := rfl
@[simp] theorem setSticky_rxBuf (m : BitVec 2) : (setSticky m s).rxBuf = s.rxBuf := rfl
@[simp] theorem setSticky_txState (m : BitVec 2) : (setSticky m s).txState = s.txState := rfl
@[simp] theorem setSticky_txRet (m : BitVec 2) : (setSticky m s).txRet = s.txRet := rfl
@[simp] theorem setSticky_txIdx (m : BitVec 2) : (setSticky m s).txIdx = s.txIdx := rfl
@[simp] theorem setSticky_txTimer (m : BitVec 2) : (setSticky m s).txTimer = s.txTimer := rfl
@[simp] theorem setSticky_txBuf (m : BitVec 2) : (setSticky m s).txBuf = s.txBuf := rfl
@[simp] theorem setSticky_txFlen (m : BitVec 2) : (setSticky m s).txFlen = s.txFlen := rfl
@[simp] theorem setSticky_sig (m : BitVec 2) : (setSticky m s).sig = s.sig := rfl
@[simp] theorem setSticky_txq (m : BitVec 2) : (setSticky m s).txq = s.txq := rfl
@[simp] theorem setSticky_rxq (m : BitVec 2) : (setSticky m s).rxq = s.rxq := rfl
@[simp] theorem setSticky_fault (m : BitVec 2) : (setSticky m s).fault = s.fault := rfl
@[simp] theorem setSticky_faultCause (m : BitVec 2) :
    (setSticky m s).faultCause = s.faultCause := rfl
@[simp] theorem setSticky_faultLen (m : BitVec 2) : (setSticky m s).faultLen = s.faultLen := rfl
@[simp] theorem setSticky_faultByte (m : BitVec 2) : (setSticky m s).faultByte = s.faultByte := rfl
@[simp] theorem setSticky_faultCalc (m : BitVec 2) : (setSticky m s).faultCalc = s.faultCalc := rfl
@[simp] theorem setSticky_errSticky (m : BitVec 2) :
    (setSticky m s).errSticky = s.errSticky ||| m := rfl
@[simp] theorem setSticky_cfg (m : BitVec 2) : (setSticky m s).cfg = s.cfg := rfl
@[simp] theorem setSticky_pins (m : BitVec 2) : (setSticky m s).pins = s.pins := rfl
@[simp] theorem setSticky_rst (m : BitVec 2) : (setSticky m s).rst = s.rst := rfl
@[simp] theorem setSticky_lineIn (m : BitVec 2) : (setSticky m s).lineIn = s.lineIn := rfl
@[simp] theorem setSticky_loutReady (m : BitVec 2) : (setSticky m s).loutReady = s.loutReady := rfl
@[simp] theorem setSticky_txValid (m : BitVec 2) : (setSticky m s).txValid = s.txValid := rfl
@[simp] theorem setSticky_txChan (m : BitVec 2) : (setSticky m s).txChan = s.txChan := rfl
@[simp] theorem setSticky_rxReady (m : BitVec 2) : (setSticky m s).rxReady = s.rxReady := rfl
@[simp] theorem setSticky_lineOut (m : BitVec 2) : (setSticky m s).lineOut = s.lineOut := rfl
@[simp] theorem setSticky_responses (m : BitVec 2) : (setSticky m s).responses = s.responses := rfl
@[simp] theorem setSticky_delivered (m : BitVec 2) : (setSticky m s).delivered = s.delivered := rfl
@[simp] theorem setSticky_agenda (m : BitVec 2) : (setSticky m s).agenda = s.agenda := rfl
@[simp] theorem setSticky_freeCount (m : BitVec 2) : (setSticky m s).freeCount = s.freeCount := rfl

/-! ## raiseFault -/

@[simp] theorem raiseFault_rxState (c : FaultCause) (l b k : Byte) :
    (raiseFault c l b k s).rxState = s.rxState := rfl
@[simp] theorem raiseFault_rxLen (c : FaultCause) (l b k : Byte) :
    (raiseFault c l b k s).rxLen = s.rxLen := rfl
@[simp] theorem raiseFault_rxCnt (c : FaultCause) (l b k : Byte) :
    (raiseFault c l b k s).rxCnt = s.rxCnt := rfl
@[simp] theorem raiseFault_rxAcc (c : FaultCause) (l b k : Byte) :
    (raiseFault c l b k s).rxAcc = s.rxAcc := rfl
@[simp] theorem raiseFault_rxBuf (c : FaultCause) (l b k : Byte) :
    (raiseFault c l b k s).rxBuf = s.rxBuf := rfl
@[simp] theorem raiseFault_txState (c : FaultCause) (l b k : Byte) :
    (raiseFault c l b k s).txState = s.txState := rfl
@[simp] theorem raiseFault_txRet (c : FaultCause) (l b k : Byte) :
    (raiseFault c l b k s).txRet = s.txRet := rfl
@[simp] theorem raiseFault_txIdx (c : FaultCause) (l b k : Byte) :
    (raiseFault c l b k s).txIdx = s.txIdx := rfl
@[simp] theorem raiseFault_txTimer (c : FaultCause) (l b k : Byte) :
    (raiseFault c l b k s).txTimer = s.txTimer := rfl
@[simp] theorem raiseFault_txBuf (c : FaultCause) (l b k : Byte) :
    (raiseFault c l b k s).txBuf = s.txBuf := rfl
@[simp] theorem raiseFault_txFlen (c : FaultCause) (l b k : Byte) :
    (raiseFault c l b k s).txFlen = s.txFlen := rfl
@[simp] theorem raiseFault_sig (c : FaultCause) (l b k : Byte) :
    (raiseFault c l b k s).sig = s.sig := rfl
@[simp] theorem raiseFault_txq (c : FaultCause) (l b k : Byte) :
    (raiseFault c l b k s).txq = s.txq := rfl
@[simp] theorem raiseFault_rxq (c : FaultCause) (l b k : Byte) :
    (raiseFault c l b k s).rxq = s.rxq := rfl
@[simp] theorem raiseFault_fault (c : FaultCause) (l b k : Byte) :
    (raiseFault c l b k s).fault = true := rfl
@[simp] theorem raiseFault_faultCause (c : FaultCause) (l b k : Byte) :
    (raiseFault c l b k s).faultCause = c := rfl
@[simp] theorem raiseFault_faultLen (c : FaultCause) (l b k : Byte) :
    (raiseFault c l b k s).faultLen = l := rfl
@[simp] theorem raiseFault_faultByte (c : FaultCause) (l b k : Byte) :
    (raiseFault c l b k s).faultByte = b := rfl
@[simp] theorem raiseFault_faultCalc (c : FaultCause) (l b k : Byte) :
    (raiseFault c l b k s).faultCalc = k := rfl
@[simp] theorem raiseFault_errSticky (c : FaultCause) (l b k : Byte) :
    (raiseFault c l b k s).errSticky = s.errSticky := rfl
@[simp] theorem raiseFault_cfg (c : FaultCause) (l b k : Byte) :
    (raiseFault c l b k s).cfg = s.cfg := rfl
@[simp] theorem raiseFault_pins (c : FaultCause) (l b k : Byte) :
    (raiseFault c l b k s).pins = s.pins := rfl
@[simp] theorem raiseFault_rst (c : FaultCause) (l b k : Byte) :
    (raiseFault c l b k s).rst = s.rst := rfl
@[simp] theorem raiseFault_lineIn (c : FaultCause) (l b k : Byte) :
    (raiseFault c l b k s).lineIn = s.lineIn := rfl
@[simp] theorem raiseFault_loutReady (c : FaultCause) (l b k : Byte) :
    (raiseFault c l b k s).loutReady = s.loutReady := rfl
@[simp] theorem raiseFault_txValid (c : FaultCause) (l b k : Byte) :
    (raiseFault c l b k s).txValid = s.txValid := rfl
@[simp] theorem raiseFault_txChan (c : FaultCause) (l b k : Byte) :
    (raiseFault c l b k s).txChan = s.txChan := rfl
@[simp] theorem raiseFault_rxReady (c : FaultCause) (l b k : Byte) :
    (raiseFault c l b k s).rxReady = s.rxReady := rfl
@[simp] theorem raiseFault_lineOut (c : FaultCause) (l b k : Byte) :
    (raiseFault c l b k s).lineOut = s.lineOut := rfl
@[simp] theorem raiseFault_responses (c : FaultCause) (l b k : Byte) :
    (raiseFault c l b k s).responses = s.responses := rfl
@[simp] theorem raiseFault_delivered (c : FaultCause) (l b k : Byte) :
    (raiseFault c l b k s).delivered = s.delivered := rfl
@[simp] theorem raiseFault_agenda (c : FaultCause) (l b k : Byte) :
    (raiseFault c l b k s).agenda = s.agenda := rfl
@[simp] theorem raiseFault_freeCount (c : FaultCause) (l b k : Byte) :
    (raiseFault c l b k s).freeCount = s.freeCount := rfl

/-! ## sendCtrl -/

@[simp] theorem sendCtrl_rxState (r : TxRet) : (sendCtrl r s).rxState = s.rxState := rfl
@[simp] theorem sendCtrl_rxLen (r : TxRet) : (sendCtrl r s).rxLen = s.rxLen := rfl
@[simp] theorem sendCtrl_rxCnt (r : TxRet) : (sendCtrl r s).rxCnt = s.rxCnt := rfl
@[simp] theorem sendCtrl_rxAcc (r : TxRet) : (sendCtrl r s).rxAcc = s.rxAcc := rfl
@[simp] theorem sendCtrl_rxBuf (r : TxRet) : (sendCtrl r s).rxBuf = s.rxBuf := rfl
@[simp] theorem sendCtrl_txState (r : TxRet) : (sendCtrl r s).txState = .ctrl := rfl
@[simp] theorem sendCtrl_txRet (r : TxRet) : (sendCtrl r s).txRet = r := rfl
@[simp] theorem sendCtrl_txIdx (r : TxRet) : (sendCtrl r s).txIdx = 0 := rfl
@[simp] theorem sendCtrl_txTimer (r : TxRet) : (sendCtrl r s).txTimer = s.txTimer := rfl
@[simp] theorem sendCtrl_txBuf (r : TxRet) : (sendCtrl r s).txBuf = s.txBuf := rfl
@[simp] theorem sendCtrl_txFlen (r : TxRet) : (sendCtrl r s).txFlen = s.txFlen := rfl
@[simp] theorem sendCtrl_sig (r : TxRet) : (sendCtrl r s).sig = s.sig := rfl
@[simp] theorem sendCtrl_txq (r : TxRet) : (sendCtrl r s).txq = s.txq := rfl
@[simp] theorem sendCtrl_rxq (r : TxRet) : (sendCtrl r s).rxq = s.rxq := rfl
@[simp] theorem sendCtrl_fault (r : TxRet) : (sendCtrl r s).fault = s.fault := rfl
@[simp] theorem sendCtrl_faultCause (r : TxRet) : (sendCtrl r s).faultCause = s.faultCause := rfl
@[simp] theorem sendCtrl_faultLen (r : TxRet) : (sendCtrl r s).faultLen = s.faultLen := rfl
@[simp] theorem sendCtrl_faultByte (r : TxRet) : (sendCtrl r s).faultByte = s.faultByte := rfl
@[simp] theorem sendCtrl_faultCalc (r : TxRet) : (sendCtrl r s).faultCalc = s.faultCalc := rfl
@[simp] theorem sendCtrl_errSticky (r : TxRet) : (sendCtrl r s).errSticky = s.errSticky := rfl
@[simp] theorem sendCtrl_cfg (r : TxRet) : (sendCtrl r s).cfg = s.cfg := rfl
@[simp] theorem sendCtrl_pins (r : TxRet) : (sendCtrl r s).pins = s.pins := rfl
@[simp] theorem sendCtrl_rst (r : TxRet) : (sendCtrl r s).rst = s.rst := rfl
@[simp] theorem sendCtrl_lineIn (r : TxRet) : (sendCtrl r s).lineIn = s.lineIn := rfl
@[simp] theorem sendCtrl_loutReady (r : TxRet) : (sendCtrl r s).loutReady = s.loutReady := rfl
@[simp] theorem sendCtrl_txValid (r : TxRet) : (sendCtrl r s).txValid = s.txValid := rfl
@[simp] theorem sendCtrl_txChan (r : TxRet) : (sendCtrl r s).txChan = s.txChan := rfl
@[simp] theorem sendCtrl_rxReady (r : TxRet) : (sendCtrl r s).rxReady = s.rxReady := rfl
@[simp] theorem sendCtrl_lineOut (r : TxRet) : (sendCtrl r s).lineOut = s.lineOut := rfl
@[simp] theorem sendCtrl_responses (r : TxRet) : (sendCtrl r s).responses = s.responses := rfl
@[simp] theorem sendCtrl_delivered (r : TxRet) : (sendCtrl r s).delivered = s.delivered := rfl
@[simp] theorem sendCtrl_agenda (r : TxRet) : (sendCtrl r s).agenda = s.agenda := rfl
@[simp] theorem sendCtrl_freeCount (r : TxRet) : (sendCtrl r s).freeCount = s.freeCount := rfl

/-! ## respond -/

@[simp] theorem respond_rxState (r : SendResp) : (respond r s).rxState = s.rxState := rfl
@[simp] theorem respond_rxLen (r : SendResp) : (respond r s).rxLen = s.rxLen := rfl
@[simp] theorem respond_rxCnt (r : SendResp) : (respond r s).rxCnt = s.rxCnt := rfl
@[simp] theorem respond_rxAcc (r : SendResp) : (respond r s).rxAcc = s.rxAcc := rfl
@[simp] theorem respond_rxBuf (r : SendResp) : (respond r s).rxBuf = s.rxBuf := rfl
@[simp] theorem respond_txState (r : SendResp) : (respond r s).txState = s.txState := rfl
@[simp] theorem respond_txRet (r : SendResp) : (respond r s).txRet = s.txRet := rfl
@[simp] theorem respond_txIdx (r : SendResp) : (respond r s).txIdx = s.txIdx := rfl
@[simp] theorem respond_txTimer (r : SendResp) : (respond r s).txTimer = s.txTimer := rfl
@[simp] theorem respond_txBuf (r : SendResp) : (respond r s).txBuf = s.txBuf := rfl
@[simp] theorem respond_txFlen (r : SendResp) : (respond r s).txFlen = s.txFlen := rfl
@[simp] theorem respond_sig (r : SendResp) : (respond r s).sig = s.sig := rfl
@[simp] theorem respond_txq (r : SendResp) : (respond r s).txq = s.txq := rfl
@[simp] theorem respond_rxq (r : SendResp) : (respond r s).rxq = s.rxq := rfl
@[simp] theorem respond_fault (r : SendResp) : (respond r s).fault = s.fault := rfl
@[simp] theorem respond_faultCause (r : SendResp) : (respond r s).faultCause = s.faultCause := rfl
@[simp] theorem respond_faultLen (r : SendResp) : (respond r s).faultLen = s.faultLen := rfl
@[simp] theorem respond_faultByte (r : SendResp) : (respond r s).faultByte = s.faultByte := rfl
@[simp] theorem respond_faultCalc (r : SendResp) : (respond r s).faultCalc = s.faultCalc := rfl
@[simp] theorem respond_errSticky (r : SendResp) : (respond r s).errSticky = s.errSticky := rfl
@[simp] theorem respond_cfg (r : SendResp) : (respond r s).cfg = s.cfg := rfl
@[simp] theorem respond_pins (r : SendResp) : (respond r s).pins = s.pins := rfl
@[simp] theorem respond_rst (r : SendResp) : (respond r s).rst = s.rst := rfl
@[simp] theorem respond_lineIn (r : SendResp) : (respond r s).lineIn = s.lineIn := rfl
@[simp] theorem respond_loutReady (r : SendResp) : (respond r s).loutReady = s.loutReady := rfl
@[simp] theorem respond_txValid (r : SendResp) : (respond r s).txValid = false := rfl
@[simp] theorem respond_txChan (r : SendResp) : (respond r s).txChan = s.txChan := rfl
@[simp] theorem respond_rxReady (r : SendResp) : (respond r s).rxReady = s.rxReady := rfl
@[simp] theorem respond_lineOut (r : SendResp) : (respond r s).lineOut = s.lineOut := rfl
@[simp] theorem respond_responses (r : SendResp) :
    (respond r s).responses = s.responses ++ [r] := rfl
@[simp] theorem respond_delivered (r : SendResp) : (respond r s).delivered = s.delivered := rfl
@[simp] theorem respond_agenda (r : SendResp) : (respond r s).agenda = s.agenda := rfl
@[simp] theorem respond_freeCount (r : SendResp) : (respond r s).freeCount = s.freeCount := rfl

/-! ## initState -/

@[simp] theorem initState_rxState : (initState s).rxState = .hunt := rfl
@[simp] theorem initState_rxLen : (initState s).rxLen = 0 := rfl
@[simp] theorem initState_rxCnt : (initState s).rxCnt = 0 := rfl
@[simp] theorem initState_rxAcc : (initState s).rxAcc = 0 := rfl
@[simp] theorem initState_rxBuf : (initState s).rxBuf = freeBytes s.freeCount 0 s.pins.mtu := rfl
@[simp] theorem initState_txState : (initState s).txState = .ctrl := rfl
@[simp] theorem initState_txRet : (initState s).txRet = .suWait := rfl
@[simp] theorem initState_txIdx : (initState s).txIdx = 0 := rfl
@[simp] theorem initState_txTimer : (initState s).txTimer = 0 := rfl
@[simp] theorem initState_txBuf :
    (initState s).txBuf = freeBytes s.freeCount s.pins.mtu (s.pins.mtu + 3) := rfl
@[simp] theorem initState_txFlen : (initState s).txFlen = 0 := rfl
@[simp] theorem initState_sig : (initState s).sig = 0 := rfl
@[simp] theorem initState_txq : (initState s).txq = [] := rfl
@[simp] theorem initState_rxq : (initState s).rxq = [] := rfl
@[simp] theorem initState_fault : (initState s).fault = false := rfl
@[simp] theorem initState_faultCause : (initState s).faultCause = .none := rfl
@[simp] theorem initState_faultLen : (initState s).faultLen = 0 := rfl
@[simp] theorem initState_faultByte : (initState s).faultByte = 0 := rfl
@[simp] theorem initState_faultCalc : (initState s).faultCalc = 0 := rfl
@[simp] theorem initState_errSticky : (initState s).errSticky = 0 := rfl
@[simp] theorem initState_cfg : (initState s).cfg = s.pins := rfl
@[simp] theorem initState_pins : (initState s).pins = s.pins := rfl
@[simp] theorem initState_rst : (initState s).rst = s.rst := rfl
@[simp] theorem initState_lineIn : (initState s).lineIn = s.lineIn := rfl
@[simp] theorem initState_loutReady : (initState s).loutReady = s.loutReady := rfl
@[simp] theorem initState_txValid : (initState s).txValid = s.txValid := rfl
@[simp] theorem initState_txChan : (initState s).txChan = s.txChan := rfl
@[simp] theorem initState_rxReady : (initState s).rxReady = s.rxReady := rfl
@[simp] theorem initState_lineOut : (initState s).lineOut = s.lineOut := rfl
@[simp] theorem initState_responses : (initState s).responses = s.responses := rfl
@[simp] theorem initState_delivered : (initState s).delivered = s.delivered := rfl
@[simp] theorem initState_agenda : (initState s).agenda = s.agenda := rfl
@[simp] theorem initState_freeCount : (initState s).freeCount = s.freeCount := rfl

/-! ## tick -/

@[simp] theorem tick_rxState : (tick s).rxState = s.rxState := rfl
@[simp] theorem tick_rxLen : (tick s).rxLen = s.rxLen := rfl
@[simp] theorem tick_rxCnt : (tick s).rxCnt = s.rxCnt := rfl
@[simp] theorem tick_rxAcc : (tick s).rxAcc = s.rxAcc := rfl
@[simp] theorem tick_rxBuf : (tick s).rxBuf = s.rxBuf := rfl
@[simp] theorem tick_txState : (tick s).txState = s.txState := rfl
@[simp] theorem tick_txRet : (tick s).txRet = s.txRet := rfl
@[simp] theorem tick_txIdx : (tick s).txIdx = s.txIdx := rfl
@[simp] theorem tick_txTimer : (tick s).txTimer = s.txTimer := rfl
@[simp] theorem tick_txBuf : (tick s).txBuf = s.txBuf := rfl
@[simp] theorem tick_txFlen : (tick s).txFlen = s.txFlen := rfl
@[simp] theorem tick_sig : (tick s).sig = s.sig := rfl
@[simp] theorem tick_txq : (tick s).txq = s.txq := rfl
@[simp] theorem tick_rxq : (tick s).rxq = s.rxq := rfl
@[simp] theorem tick_fault : (tick s).fault = s.fault := rfl
@[simp] theorem tick_faultCause : (tick s).faultCause = s.faultCause := rfl
@[simp] theorem tick_faultLen : (tick s).faultLen = s.faultLen := rfl
@[simp] theorem tick_faultByte : (tick s).faultByte = s.faultByte := rfl
@[simp] theorem tick_faultCalc : (tick s).faultCalc = s.faultCalc := rfl
@[simp] theorem tick_errSticky : (tick s).errSticky = s.errSticky := rfl
@[simp] theorem tick_cfg : (tick s).cfg = s.cfg := rfl
@[simp] theorem tick_pins : (tick s).pins = s.pins := rfl
@[simp] theorem tick_rst : (tick s).rst = s.rst := rfl
@[simp] theorem tick_lineIn : (tick s).lineIn = s.lineIn := rfl
@[simp] theorem tick_loutReady : (tick s).loutReady = s.loutReady := rfl
@[simp] theorem tick_txValid : (tick s).txValid = s.txValid := rfl
@[simp] theorem tick_txChan : (tick s).txChan = s.txChan := rfl
@[simp] theorem tick_rxReady : (tick s).rxReady = s.rxReady := rfl
@[simp] theorem tick_lineOut : (tick s).lineOut = s.lineOut := rfl
@[simp] theorem tick_responses : (tick s).responses = s.responses := rfl
@[simp] theorem tick_delivered : (tick s).delivered = s.delivered := rfl
@[simp] theorem tick_agenda : (tick s).agenda = s.agenda := rfl
@[simp] theorem tick_freeCount : (tick s).freeCount = s.freeCount + 1 := rfl

/-! ## afterFetch -/

@[simp] theorem afterFetch_rxState : (afterFetch s).rxState = s.rxState := rfl
@[simp] theorem afterFetch_rxLen : (afterFetch s).rxLen = s.rxLen := rfl
@[simp] theorem afterFetch_rxCnt : (afterFetch s).rxCnt = s.rxCnt := rfl
@[simp] theorem afterFetch_rxAcc : (afterFetch s).rxAcc = s.rxAcc := rfl
@[simp] theorem afterFetch_rxBuf : (afterFetch s).rxBuf = s.rxBuf := rfl
@[simp] theorem afterFetch_txState : (afterFetch s).txState = s.txState := rfl
@[simp] theorem afterFetch_txRet : (afterFetch s).txRet = s.txRet := rfl
@[simp] theorem afterFetch_txIdx : (afterFetch s).txIdx = s.txIdx := rfl
@[simp] theorem afterFetch_txTimer : (afterFetch s).txTimer = s.txTimer := rfl
@[simp] theorem afterFetch_txBuf : (afterFetch s).txBuf = s.txBuf := rfl
@[simp] theorem afterFetch_txFlen : (afterFetch s).txFlen = s.txFlen := rfl
@[simp] theorem afterFetch_sig : (afterFetch s).sig = s.sig := rfl
@[simp] theorem afterFetch_txq : (afterFetch s).txq = s.txq := rfl
@[simp] theorem afterFetch_rxq : (afterFetch s).rxq = s.rxq := rfl
@[simp] theorem afterFetch_fault : (afterFetch s).fault = s.fault := rfl
@[simp] theorem afterFetch_faultCause : (afterFetch s).faultCause = s.faultCause := rfl
@[simp] theorem afterFetch_faultLen : (afterFetch s).faultLen = s.faultLen := rfl
@[simp] theorem afterFetch_faultByte : (afterFetch s).faultByte = s.faultByte := rfl
@[simp] theorem afterFetch_faultCalc : (afterFetch s).faultCalc = s.faultCalc := rfl
@[simp] theorem afterFetch_errSticky : (afterFetch s).errSticky = s.errSticky := rfl
@[simp] theorem afterFetch_cfg : (afterFetch s).cfg = s.cfg := rfl
@[simp] theorem afterFetch_pins : (afterFetch s).pins = s.pins := rfl
@[simp] theorem afterFetch_rst : (afterFetch s).rst = s.rst := rfl
@[simp] theorem afterFetch_lineIn : (afterFetch s).lineIn = s.lineIn := rfl
@[simp] theorem afterFetch_loutReady : (afterFetch s).loutReady = s.loutReady := rfl
@[simp] theorem afterFetch_txValid : (afterFetch s).txValid = s.txValid := rfl
@[simp] theorem afterFetch_txChan : (afterFetch s).txChan = s.txChan := rfl
@[simp] theorem afterFetch_rxReady : (afterFetch s).rxReady = s.rxReady := rfl
@[simp] theorem afterFetch_lineOut : (afterFetch s).lineOut = s.lineOut := rfl
@[simp] theorem afterFetch_responses : (afterFetch s).responses = s.responses := rfl
@[simp] theorem afterFetch_delivered : (afterFetch s).delivered = s.delivered := rfl
@[simp] theorem afterFetch_agenda : (afterFetch s).agenda = s.agenda.tail := rfl
@[simp] theorem afterFetch_freeCount : (afterFetch s).freeCount = s.freeCount + 1 := rfl

end Sys2Proof.Machine
end

