-- ==== Sys2Proof/Laws/Ops.lean ====
section
/-! SUPPORT. One lemma per shared operation that says once what it can do: the provers cite these and do
not unfold the operation. -/

namespace Sys2Proof.Machine

/-! ## Running and waiting -/

theorem running_iff {s : State} : running s = true ↔ s.rst = false ∧ s.fault = false := by
  simp [running]

@[simp] theorem andThen_next (s : State) (k : State → Result) : andThen (.next s) k = k s := rfl

@[simp] theorem andThen_fault (f : Fault) (k : State → Result) :
    andThen (.fault f) k = .fault f := rfl

theorem andThen_eq_next {r : Result} {k : State → Result} {t : State} :
    andThen r k = .next t ↔ ∃ u, r = .next u ∧ k u = .next t := by
  cases r <;> simp [andThen]

theorem whenEnabled_of_enabled {i : Instr} {s : State} {r : Result} (h : enabled i s = true) :
    whenEnabled i s r = r := by
  simp [whenEnabled, h]

theorem whenEnabled_of_waiting {i : Instr} {s : State} {r : Result} (h : enabled i s = false) :
    whenEnabled i s r = .next s := by
  simp [whenEnabled, h]

theorem whenEnabled_eq_next {i : Instr} {s t : State} {r : Result} :
    whenEnabled i s r = .next t ↔
      (enabled i s = true ∧ r = .next t) ∨ (enabled i s = false ∧ t = s) := by
  cases h : enabled i s <;> simp [whenEnabled, h, eq_comm]

/-! ## Line bytes -/

theorem lineOffers_iff {b : Byte} {s : State} :
    lineOffers b s = true ↔ ∃ rest, s.lineIn = b :: rest := by
  cases h : s.lineIn <;> simp [lineOffers, h]

theorem awaitByte_iff {st : RxState} {b : Byte} {s : State} :
    awaitByte st b s = true ↔
      running s = true ∧ s.rxState = st ∧ ∃ rest, s.lineIn = b :: rest := by
  simp [awaitByte, lineOffers_iff, and_assoc]

theorem awaitTx_iff {st : TxState} {s : State} :
    awaitTx st s = true ↔ running s = true ∧ s.txState = st := by
  simp [awaitTx]

theorem awaitFrame_iff {frame : List Byte} {s : State} :
    awaitFrame frame s = true ↔
      running s = true ∧ s.rxState = .hunt ∧ ∃ rest, s.lineIn = frame ++ rest := by
  simp only [awaitFrame, Bool.and_eq_true, beq_iff_eq, List.isPrefixOf_iff_prefix, and_assoc]
  constructor
  · rintro ⟨h1, h2, rest, h3⟩
    exact ⟨h1, h2, rest, h3.symm⟩
  · rintro ⟨h1, h2, rest, h3⟩
    exact ⟨h1, h2, rest, h3.symm⟩

/-! ## RXF's operations -/

/-- What RX_PAYLOAD's operation does when it answers a next state (R145). -/
theorem payloadByte_next {b : Byte} {s t : State} (h : payloadByte b s = .next t) :
    s.rxCnt.toNat < s.rxBuf.length ∧
    t = { s with
      lineIn := s.lineIn.tail
      rxBuf := s.rxBuf.set s.rxCnt.toNat b
      rxAcc := s.rxAcc ^^^ b
      rxCnt := s.rxCnt + 1
      rxState := if s.rxCnt + 1 = s.rxLen then .cksum else .payload } := by
  unfold payloadByte at h
  split at h
  · next hlt => cases h; exact ⟨hlt, rfl⟩
  · cases h

/-- What RX_PUSH's operation does when it answers a next state (R148). -/
theorem pushFrame_next {s t : State} (h : pushFrame s = .next t) :
    s.rxLen.toNat ≤ s.rxBuf.length ∧
    t = { s with
      rxq := s.rxq ++ [{ len := s.rxLen, payload := s.rxBuf.take s.rxLen.toNat }]
      sig := sigSet .ack s.sig
      rxState := .hunt } := by
  unfold pushFrame at h
  split at h
  · next hle => cases h; exact ⟨hle, rfl⟩
  · cases h

/-- The push of a held frame happens, or nothing does. -/
theorem pushHeld_next {s t : State} (h : pushHeld s = .next t) :
    (running s = true ∧ s.rxState = .push ∧ full s.cfg.rxqDepth s.rxq = false ∧
      pushFrame s = .next t) ∨ t = s := by
  unfold pushHeld at h
  split at h
  · next hc =>
    simp only [Bool.and_eq_true, beq_iff_eq, Bool.not_eq_true'] at hc
    exact .inl ⟨hc.1.1, hc.1.2, hc.2, h⟩
  · cases h; exact .inr rfl

/-- What one RXF step on a byte can do (R86). -/
theorem receiveByte_next {b : Byte} {s t : State} (h : receiveByte b s = .next t) :
    (running s = false ∧ t = s) ∨
    (running s = true ∧
      ((s.rxState = .hunt ∧ b = startByte ∧ t = huntStart s) ∨
       (s.rxState = .hunt ∧ b ≠ startByte ∧ t = huntSkip s) ∨
       (s.rxState = .len ∧ b = 0 ∧ t = lenCtrl s) ∨
       (s.rxState = .len ∧ b ≠ 0 ∧ legalLen s.cfg.mtu b = true ∧ t = lenData b s) ∨
       (s.rxState = .len ∧ b ≠ 0 ∧ legalLen s.cfg.mtu b = false ∧ t = lenBad b s) ∨
       (s.rxState = .payload ∧ payloadByte b s = .next t) ∨
       (s.rxState = .cksum ∧ b = s.rxAcc ∧ t = cksumOk s) ∨
       (s.rxState = .cksum ∧ b ≠ s.rxAcc ∧ t = cksumBad b s) ∨
       (s.rxState = .push ∧ t = s))) := by
  unfold receiveByte at h
  cases hr : running s with
  | false => simp [hr] at h; exact .inl ⟨rfl, h.symm⟩
  | true =>
    refine .inr ⟨rfl, ?_⟩
    rw [if_pos hr] at h
    split at h
    · next hs =>
      by_cases hb : b = startByte
      · rw [if_pos hb] at h; cases h; exact .inl ⟨hs, hb, rfl⟩
      · rw [if_neg hb] at h; cases h; exact .inr (.inl ⟨hs, hb, rfl⟩)
    · next hs =>
      refine .inr (.inr ?_)
      by_cases hb : b = 0
      · rw [if_pos hb] at h; cases h; exact .inl ⟨hs, hb, rfl⟩
      · rw [if_neg hb] at h
        cases hl : legalLen s.cfg.mtu b <;> rw [hl] at h <;> cases h
        · exact .inr (.inr (.inl ⟨hs, hb, rfl, rfl⟩))
        · exact .inr (.inl ⟨hs, hb, rfl, rfl⟩)
    · next hs => exact .inr (.inr (.inr (.inr (.inr (.inl ⟨hs, h⟩)))))
    · next hs =>
      refine .inr (.inr (.inr (.inr (.inr (.inr ?_)))))
      by_cases hb : b = s.rxAcc
      · rw [if_pos hb] at h; cases h; exact .inl ⟨hs, hb, rfl⟩
      · rw [if_neg hb] at h; cases h; exact .inr (.inl ⟨hs, hb, rfl⟩)
    · next hs =>
      cases h
      exact .inr (.inr (.inr (.inr (.inr (.inr (.inr (.inr ⟨hs, rfl⟩)))))))

@[simp] theorem receiveBytes_nil (s : State) : receiveBytes [] s = .next s := rfl

@[simp] theorem receiveBytes_cons (b : Byte) (bs : List Byte) (s : State) :
    receiveBytes (b :: bs) s = andThen (receiveByte b s) (receiveBytes bs) := rfl

/-! ## TXF's operations -/

/-- What TX_CHECK_DEQ's operation does when it answers a next state (R165). -/
theorem checkDeq_next {s t : State} (h : checkDeq s = .next t) :
    (s.txq = [] ∧ t = s) ∨
    ∃ k rest, s.txq = k :: rest ∧ Packet.fits s.cfg.mtu k = true ∧
      (encodePacket k).length ≤ s.txBuf.length ∧
      t = { s with
        txq := rest
        txBuf := encodePacket k ++ s.txBuf.drop (encodePacket k).length
        txFlen := BitVec.ofNat 9 (encodePacket k).length
        txIdx := 0
        txState := .gate } := by
  unfold checkDeq at h
  split at h
  · next hq => cases h; exact .inl ⟨hq, rfl⟩
  · next k rest hq =>
    split at h
    · next hf =>
      split at h
      · next hl => cases h; exact .inr ⟨k, rest, hq, hf, hl, rfl⟩
      · cases h
    · cases h

/-- What TX_XMIT's operation does when it answers a next state (R168). -/
theorem xmitByte_next {s t : State} (h : xmitByte s = .next t) :
    ∃ b, s.txBuf[s.txIdx.toNat]? = some b ∧
      t = (if s.txIdx + 1 = s.txFlen then { emit b s with txIdx := 0, txState := .check }
           else { emit b s with txIdx := s.txIdx + 1 }) := by
  unfold xmitByte at h
  split at h
  · next b hb => cases h; exact ⟨b, hb, rfl⟩
  · cases h

/-! ## Host operations -/

/-- What RECV's operation does when it answers a next state (R195). -/
theorem deliverHead_next {s t : State} (h : deliverHead s = .next t) :
    (s.rxq = [] ∧ t = s) ∨
    ∃ f rest k, s.rxq = f :: rest ∧ decodeRecord s.cfg.mtu f = some k ∧
      t = { s with rxq := rest, delivered := s.delivered ++ [toRxPkt k] } := by
  unfold deliverHead at h
  split at h
  · next hq => cases h; exact .inl ⟨hq, rfl⟩
  · next f rest hq =>
    split at h
    · next k hk => cases h; exact .inr ⟨f, rest, k, hq, hk, rfl⟩
    · cases h

theorem deliverIf_next {r : Bool} {s t : State} (h : deliverIf r s = .next t) :
    (r = false ∧ t = s) ∨ (r = true ∧ deliverHead s = .next t) := by
  cases r
  · simp [deliverIf] at h; exact .inl ⟨rfl, h.symm⟩
  · simp [deliverIf] at h; exact .inr ⟨rfl, h⟩

@[simp] theorem freeBytes_length (c a n : Nat) : (freeBytes c a n).length = n := by
  simp [freeBytes]

@[simp] theorem storedPacket_data_length (t : TxReq) (s : State) :
    (storedPacket t s).data.length = t.dlen.toNat := by
  simp [storedPacket]

/-! ## Codec -/

@[simp] theorem cksum_nil : cksum [] = 0 := rfl

@[simp] theorem cksum_cons (b : Byte) (bs : List Byte) : cksum (b :: bs) = b ^^^ cksum bs := rfl

theorem cksum_append (xs ys : List Byte) : cksum (xs ++ ys) = cksum xs ^^^ cksum ys := by
  induction xs with
  | nil => simp
  | cons x xs ih => simp [ih, BitVec.xor_assoc]

@[simp] theorem dataFrame_length (l : Byte) (p : List Byte) (c : Byte) :
    (dataFrame l p c).length = p.length + 3 := by
  simp [dataFrame]

@[simp] theorem framePayload_length (k : Packet) :
    (framePayload k).length = k.data.length + 2 := by
  simp [framePayload, pack]

@[simp] theorem encodePacket_length (k : Packet) :
    (encodePacket k).length = k.data.length + 5 := by
  simp [encodePacket]

/-! ## Turns -/

/-- What a turn can do (R14): an input changes, an agent runs a decoded instruction, or it waits. -/
theorem perform_next {t : Turn} {s s' : State} (h : perform t s = .next s') :
    environmentTurn t s = some s' ∨
    (environmentTurn t s = none ∧
      (s' = s ∨ ∃ code i, fetchCode t s = some code ∧ decode (selectCtx s) code = .ok i ∧
        exec i s = .next s')) := by
  unfold perform at h
  split at h
  · next u hu => cases h; exact .inl hu
  · next hu =>
    refine .inr ⟨hu, ?_⟩
    split at h
    · cases h; exact .inl rfl
    · next code hc =>
      split at h
      · next i hd => exact .inr ⟨code, i, hc, hd, h⟩
      · cases h; exact .inl rfl

theorem step_eq (s : State) : step s = perform (nextTurn s) (afterFetch s) := rfl

/-! ## The step counter, cycles and link turns -/

/-- Nothing but the free values reads the step counter: the invariant does not. -/
theorem endInv_tick {s : State} : EndInv (tick s) ↔ EndInv s := Iff.rfl

@[simp] theorem running_tick (s : State) : running (tick s) = running s := rfl

@[simp] theorem enabled_tick (i : Instr) (s : State) : enabled i (tick s) = enabled i s := by
  cases i <;> rfl

@[simp] theorem fetchCode_tick (t : Turn) (s : State) : fetchCode t (tick s) = fetchCode t s := rfl

@[simp] theorem selectCtx_tick (s : State) : selectCtx (tick s) = selectCtx s := rfl

/-- Which instruction a turn runs does not depend on the step counter. -/
@[simp] theorem turnInstr_tick (t : Turn) (s : State) : turnInstr t (tick s) = turnInstr t s := by
  simp [turnInstr]

/-- What a turn of end A can do to a link (R210). -/
theorem linkStep_a_some {t : Turn} {l l' : Link} (h : linkStep .a t l = some l') :
    ∃ a', perform t (tick l.a) = .next a' ∧
      l' = { l with a := drain a', b := feed a'.lineOut l.b,
                    sentA := l.sentA ++ newlySent l.a a' } := by
  simp only [linkStep] at h
  split at h
  · next a' ha => cases h; exact ⟨a', ha, rfl⟩
  · cases h
  · cases h

/-- What a turn of end B can do to a link (R210). -/
theorem linkStep_b_some {t : Turn} {l l' : Link} (h : linkStep .b t l = some l') :
    ∃ b', perform t (tick l.b) = .next b' ∧
      l' = { l with b := drain b', a := feed b'.lineOut l.a,
                    sentB := l.sentB ++ newlySent l.b b' } := by
  simp only [linkStep] at h
  split at h
  · next b' hb => cases h; exact ⟨b', hb, rfl⟩
  · cases h
  · cases h

/-! ## Streams -/

@[simp] theorem parse_nil (mtu : Nat) (ph : Phase) : parse mtu ph [] = ([], ph) := rfl

theorem parse_append (mtu : Nat) (ph : Phase) (xs ys : List Byte) :
    parse mtu ph (xs ++ ys) =
      ((parse mtu ph xs).1 ++ (parse mtu (parse mtu ph xs).2 ys).1,
        (parse mtu (parse mtu ph xs).2 ys).2) := by
  induction xs generalizing ph with
  | nil => simp
  | cons x xs ih => simp [parse, ih]

end Sys2Proof.Machine
end

