-- ==== Sys2Proof/Laws/PerInstr.lean ====
section
/-! SUPPORT. The family EncodingMatchesTable: an instruction's code has the format of its row of the opcode
table, and its word has the row's fixed bits (match under mask). One lemma per constructor. -/

namespace Sys2Proof.Laws.EncodingMatchesTable

/-- The table's formats. -/
inductive Format where
  | wire
  | rxf
  | txf
  | host
  | rst
  deriving DecidableEq, Repr

/-- The format of a code. -/
def formatOf : Code → Format
  | .wire _ => .wire
  | .rxf _ => .rxf
  | .txf _ => .txf
  | .host _ _ => .host
  | .rst _ => .rst

/-- The table's word of a code: for a frame, its first two line bytes, START in the high byte. -/
def headWord : Code → BitVec 16
  | .wire (s :: l :: _) => s ++ l
  | .wire _ => 0
  | .rxf w => w.setWidth 16
  | .txf w => w.setWidth 16
  | .host op _ => op.setWidth 16
  | .rst w => w.setWidth 16

/-- Format, mask and match of the instruction's row, as the table has them. -/
def row : Instr → Format × BitVec 16 × BitVec 16
  | .ctrl => (.wire, 0xFFFF, 0xFF00)
  | .data _ _ _ => (.wire, 0xFF00, 0xFF00)
  | .badlenShort => (.wire, 0xFFFF, 0xFF01)
  | .badlenLong _ => (.wire, 0xFF00, 0xFF00)
  | .rxHuntStart => (.rxf, 0x7FF, 0x0FF)
  | .rxHuntSkip _ => (.rxf, 0x700, 0x000)
  | .rxLenCtrl => (.rxf, 0x7FF, 0x100)
  | .rxLenData _ => (.rxf, 0x700, 0x100)
  | .rxLenBad _ => (.rxf, 0x700, 0x100)
  | .rxPayload _ => (.rxf, 0x700, 0x200)
  | .rxCksumOk _ => (.rxf, 0x700, 0x300)
  | .rxCksumBad _ => (.rxf, 0x700, 0x300)
  | .rxPush => (.rxf, 0x700, 0x400)
  | .txCtrl => (.txf, 0x7, 0x0)
  | .txSuTick => (.txf, 0x7, 0x1)
  | .txSuSample => (.txf, 0x7, 0x1)
  | .txCheckEmpty => (.txf, 0x7, 0x2)
  | .txCheckDeq => (.txf, 0x7, 0x2)
  | .txWait1 => (.txf, 0x7, 0x3)
  | .txGate => (.txf, 0x7, 0x4)
  | .txXmit => (.txf, 0x7, 0x5)
  | .send _ _ => (.host, 0x1, 0x1)
  | .sendReject _ _ => (.host, 0x1, 0x1)
  | .recv => (.host, 0x2, 0x2)
  | .init => (.rst, 0x1, 0x1)

/-- The code of `i` is in its row's format and carries its row's fixed bits. -/
def Statement (i : Instr) : Prop :=
  formatOf (encode i) = (row i).1 ∧ headWord (encode i) &&& (row i).2.1 = (row i).2.2

theorem ctrl : Statement .ctrl :=
  by unfold Statement; decide

theorem data (l : Byte) (p : List Byte) (k : Byte) : Statement (.data l p k) :=
  ⟨rfl, by simp only [encode, dataFrame, headWord, row]; revert l; decide⟩

theorem badlenShort : Statement .badlenShort :=
  by unfold Statement; decide

theorem badlenLong (l : Byte) : Statement (.badlenLong l) :=
  ⟨rfl, by simp only [encode, headWord, row]; revert l; decide⟩

theorem rxHuntStart : Statement .rxHuntStart :=
  by unfold Statement; decide

theorem rxHuntSkip (b : Byte) : Statement (.rxHuntSkip b) :=
  ⟨rfl, by simp only [encode, headWord, row]; revert b; decide⟩

theorem rxLenCtrl : Statement .rxLenCtrl :=
  by unfold Statement; decide

theorem rxLenData (b : Byte) : Statement (.rxLenData b) :=
  ⟨rfl, by simp only [encode, headWord, row]; revert b; decide⟩

theorem rxLenBad (b : Byte) : Statement (.rxLenBad b) :=
  ⟨rfl, by simp only [encode, headWord, row]; revert b; decide⟩

theorem rxPayload (b : Byte) : Statement (.rxPayload b) :=
  ⟨rfl, by simp only [encode, headWord, row]; revert b; decide⟩

theorem rxCksumOk (b : Byte) : Statement (.rxCksumOk b) :=
  ⟨rfl, by simp only [encode, headWord, row]; revert b; decide⟩

theorem rxCksumBad (b : Byte) : Statement (.rxCksumBad b) :=
  ⟨rfl, by simp only [encode, headWord, row]; revert b; decide⟩

theorem rxPush : Statement .rxPush :=
  by unfold Statement; decide

theorem txCtrl : Statement .txCtrl :=
  by unfold Statement; decide

theorem txSuTick : Statement .txSuTick :=
  by unfold Statement; decide

theorem txSuSample : Statement .txSuSample :=
  by unfold Statement; decide

theorem txCheckEmpty : Statement .txCheckEmpty :=
  by unfold Statement; decide

theorem txCheckDeq : Statement .txCheckDeq :=
  by unfold Statement; decide

theorem txWait1 : Statement .txWait1 :=
  by unfold Statement; decide

theorem txGate : Statement .txGate :=
  by unfold Statement; decide

theorem txXmit : Statement .txXmit :=
  by unfold Statement; decide

theorem send (f : Bool) (t : TxReq) : Statement (.send f t) :=
  ⟨rfl, by simp only [encode, headWord, row]; revert f; decide⟩

theorem sendReject (f : Bool) (t : TxReq) : Statement (.sendReject f t) :=
  ⟨rfl, by simp only [encode, headWord, row]; revert f; decide⟩

theorem recv : Statement .recv :=
  by unfold Statement; decide

theorem init : Statement .init :=
  by unfold Statement; decide

end Sys2Proof.Laws.EncodingMatchesTable
end

