-- ==== Sys2Proof/Tests/Slice0.lean ====
section
/-! SUPPORT. Tests: words written out from the encoding tables, ill-formed terms, vectors of
95_test_vectors.md, and a witness for each statement that has hypotheses. -/

namespace Sys2Proof.Tests

open Sys2Proof Sys2Proof.Machine

/-! ## Helpers -/

/-- A small configuration: `MTU = 8`, depths 2 (RXQ 1). -/
def params (policy : ErrPolicy) : Params where
  mtu := 8
  txqDepth := 2
  rxqDepth := 1
  startupInterval := 2
  errPolicy := policy
  mtu_ge := by decide
  mtu_le := by decide
  txqDepth_pos := by decide
  rxqDepth_pos := by decide
  startupInterval_pos := by decide

/-- The state after reset with that configuration. -/
def small (policy : ErrPolicy) : State :=
  { State.reset with
    cfg := params policy, pins := params policy
    rxBuf := List.replicate 8 0, txBuf := List.replicate 11 0 }

/-- RXF in a state, with bytes offered. -/
def rx (policy : ErrPolicy) (st : RxState) (line : List Byte) : State :=
  { small policy with rxState := st, rxAcc := 0xFF, lineIn := line }

/-- TXF in a state, with the signals set and line-out accepting. -/
def tx (st : TxState) (sig : BitVec 3) : State :=
  { small .fatal with txState := st, sig := sig, loutReady := true }

/-- What a result's next state shows. -/
def after {α : Type} (r : Result) (f : State → α) : Option α :=
  match r with
  | .next s => some (f s)
  | .fault _ => none
  | .refused _ => none

/-- A presented packet. -/
def req (dst src : BitVec 4) (dlen : Byte) (data : List Byte) : TxReq :=
  { dst := dst, src := src, last := false, func := 7, dlen := dlen, data := data }

/-- The host presents a packet and takes what the RX channel offers. -/
def host (t : TxReq) (q : List FrameRec) : State :=
  { small .fatal with txValid := true, txChan := t, rxReady := true, rxq := q }

/-- The packet of E1, the worked example S1. -/
def packetE1 : Packet :=
  { route := { dst := 1, src := 0, last := false, func := 7 }, dlen := 5, data := [1, 2, 3, 4, 5] }

/-- The frame of E1. -/
def frameE1 : List Byte := [0xFF, 0x07, 0x01, 0x07, 0x01, 0x02, 0x03, 0x04, 0x05, 0xFF]

/-- The frame of E3, the empty packet. -/
def frameE3 : List Byte := [0xFF, 0x02, 0x00, 0x00, 0xFD]

/-! ## Decoding: one word per instruction, written out from the encoding tables -/

/-- A selection context: `MTU = 8`. -/
def ctx (acc : Byte) (timerZero txqEmpty : Bool) : Ctx :=
  { mtu := 8, rxAcc := acc, timerZero := timerZero, txqEmpty := txqEmpty }

/-- R70: `FF 00`. -/
theorem test_decode_ctrl : decode (ctx 0 true true) (.wire [0xFF, 0x00]) = .ok .ctrl := by decide
/-- R70: `FF L p C` (95 E1). -/
theorem test_decode_data : decode (ctx 0 true true) (.wire frameE1)
    = .ok (.data 7 [1, 7, 1, 2, 3, 4, 5] 0xFF) := by decide
/-- R77: `FF 01`. -/
theorem test_decode_badlen_short : decode (ctx 0 true true) (.wire [0xFF, 0x01])
    = .ok .badlenShort := by decide
/-- R77: `FF L`, `L = MTU + 1`. -/
theorem test_decode_badlen_long : decode (ctx 0 true true) (.wire [0xFF, 0x09])
    = .ok (.badlenLong 9) := by decide
/-- R86: word 0x0FF. -/
theorem test_decode_hunt_start : decode (ctx 0 true true) (.rxf 0b000_11111111)
    = .ok .rxHuntStart := by decide
/-- R86: word 0x0FE. -/
theorem test_decode_hunt_skip : decode (ctx 0 true true) (.rxf 0b000_11111110)
    = .ok (.rxHuntSkip 0xFE) := by decide
/-- R86: word 0x100. -/
theorem test_decode_len_ctrl : decode (ctx 0 true true) (.rxf 0b001_00000000)
    = .ok .rxLenCtrl := by decide
/-- R86: word 0x108, `L = MTU`. -/
theorem test_decode_len_data : decode (ctx 0 true true) (.rxf 0b001_00001000)
    = .ok (.rxLenData 8) := by decide
/-- R86: words 0x101 and 0x109. -/
theorem test_decode_len_bad :
    decode (ctx 0 true true) (.rxf 0b001_00000001) = .ok (.rxLenBad 1) ∧
    decode (ctx 0 true true) (.rxf 0b001_00001001) = .ok (.rxLenBad 9) := by decide
/-- R86: word 0x2FF; 0xFF is data (95 X14). -/
theorem test_decode_payload : decode (ctx 0 true true) (.rxf 0b010_11111111)
    = .ok (.rxPayload 0xFF) := by decide
/-- R86: word 0x3A5 with `rx_acc = A5`. -/
theorem test_decode_cksum_ok : decode (ctx 0xA5 true true) (.rxf 0b011_10100101)
    = .ok (.rxCksumOk 0xA5) := by decide
/-- R86: word 0x3A4 with `rx_acc = A5`. -/
theorem test_decode_cksum_bad : decode (ctx 0xA5 true true) (.rxf 0b011_10100100)
    = .ok (.rxCksumBad 0xA4) := by decide
/-- R86: word 0x400. -/
theorem test_decode_push : decode (ctx 0 true true) (.rxf 0b100_00000000) = .ok .rxPush := by decide
/-- R87: word 0. -/
theorem test_decode_tx_ctrl : decode (ctx 0 true true) (.txf 0b000) = .ok .txCtrl := by decide
/-- R87: word 1, timer running. -/
theorem test_decode_su_tick : decode (ctx 0 false true) (.txf 0b001) = .ok .txSuTick := by decide
/-- R87: word 1, timer 0. -/
theorem test_decode_su_sample : decode (ctx 0 true true) (.txf 0b001) = .ok .txSuSample := by decide
/-- R87: word 2, TXQ empty. -/
theorem test_decode_check_empty : decode (ctx 0 true true) (.txf 0b010)
    = .ok .txCheckEmpty := by decide
/-- R87: word 2, TXQ not empty. -/
theorem test_decode_check_deq : decode (ctx 0 true false) (.txf 0b010)
    = .ok .txCheckDeq := by decide
/-- R87: word 3. -/
theorem test_decode_wait1 : decode (ctx 0 true true) (.txf 0b011) = .ok .txWait1 := by decide
/-- R87: word 4. -/
theorem test_decode_gate : decode (ctx 0 true true) (.txf 0b100) = .ok .txGate := by decide
/-- R87: word 5. -/
theorem test_decode_xmit : decode (ctx 0 true true) (.txf 0b101) = .ok .txXmit := by decide
/-- R78: op 0b01 and op 0b11, a valid packet (95 H1). -/
theorem test_decode_send :
    decode (ctx 0 true true) (.host 0b01 (req 1 0 5 [])) = .ok (.send false (req 1 0 5 [])) ∧
    decode (ctx 0 true true) (.host 0b11 (req 1 0 5 [])) = .ok (.send true (req 1 0 5 [])) := by
  decide
/-- R78: op 0b01, `dst = 8` (95 H5). -/
theorem test_decode_send_reject :
    decode (ctx 0 true true) (.host 0b01 (req 8 0 5 [])) = .ok (.sendReject false (req 8 0 5 [])) := by
  decide
/-- R78: op 0b10. -/
theorem test_decode_recv : decode (ctx 0 true true) (.host 0b10 (req 1 0 5 [])) = .ok .recv := by
  decide
/-- R190: `rst = 1`. -/
theorem test_decode_init : decode (ctx 0 true true) (.rst 0b1) = .ok .init := by decide

/-- What is no instruction is rejected by name (R85, R21, R26, R78, R190). -/
theorem test_decode_rejects :
    decode (ctx 0 true true) (.wire [0x12, 0xFF]) = .error .notStart ∧
    decode (ctx 0 true true) (.wire [0xFF, 0x02, 0x00, 0x00]) = .error .truncated ∧
    decode (ctx 0 true true) (.rxf 0b101_00000000) = .error .rxStateCode ∧
    decode (ctx 0 true true) (.txf 0b110) = .error .txStateCode ∧
    decode (ctx 0 true true) (.host 0b00 (req 1 0 5 [])) = .error .noOperation ∧
    decode (ctx 0 true true) (.rst 0b0) = .error .rstLow := by decide

/-- A table word numbered as the table numbers it: `FF 00`, `FF 80`, `0x107`, `0x5`. -/
theorem test_table_words :
    decodeTableWord 16 0xFF00 = some .ctrl ∧
    decodeTableWord 16 0xFF81 = some (.badlenLong 0x81) ∧
    decodeTableWord 16 0x0107 = some (.rxLenData 7) ∧
    decodeTableWord 8 0x05 = some .txXmit := by decide

/-! ## WellFormed: an ill-formed term for each check -/

theorem test_wf_data_length :
    (Instr.data 9 (List.replicate 9 0) 0).wf (ctx 0 true true) = false := by
  decide
theorem test_wf_data_payload : (Instr.data 3 [0, 0] 0).wf (ctx 0 true true) = false := by decide
theorem test_wf_badlen_long : (Instr.badlenLong 8).wf (ctx 0 true true) = false := by decide
theorem test_wf_hunt_skip : (Instr.rxHuntSkip 0xFF).wf (ctx 0 true true) = false := by decide
theorem test_wf_len_data : (Instr.rxLenData 1).wf (ctx 0 true true) = false := by decide
theorem test_wf_len_bad_zero : (Instr.rxLenBad 0).wf (ctx 0 true true) = false := by decide
theorem test_wf_len_bad_legal : (Instr.rxLenBad 2).wf (ctx 0 true true) = false := by decide
theorem test_wf_cksum_ok : (Instr.rxCksumOk 1).wf (ctx 0 true true) = false := by decide
theorem test_wf_cksum_bad : (Instr.rxCksumBad 0).wf (ctx 0 true true) = false := by decide
theorem test_wf_su_tick : Instr.txSuTick.wf (ctx 0 true true) = false := by decide
theorem test_wf_su_sample : Instr.txSuSample.wf (ctx 0 false true) = false := by decide
theorem test_wf_check_empty : Instr.txCheckEmpty.wf (ctx 0 true false) = false := by decide
theorem test_wf_check_deq : Instr.txCheckDeq.wf (ctx 0 true true) = false := by decide
theorem test_wf_send : (Instr.send false (req 8 0 0 [])).wf (ctx 0 true true) = false := by decide
theorem test_wf_send_reject :
    (Instr.sendReject false (req 7 7 6 [])).wf (ctx 0 true true) = false := by
  decide
theorem test_wf_ctx :
    (Ctx.ok { mtu := 1, rxAcc := 0, timerZero := true, txqEmpty := true }) = false ∧
    (Ctx.ok { mtu := 256, rxAcc := 0, timerZero := true, txqEmpty := true }) = false := by decide

/-! ## Codec (95 §3.1) -/

/-- E1 and E3. -/
theorem test_encode : encodePacket packetE1 = frameE1 ∧
    encodePacket { route := { dst := 0, src := 0, last := false, func := 0 }, dlen := 0, data := [] }
      = frameE3 := by decide
/-- PACK `{2,5,0,0x10}` and `{7,7,1,0xFF}`; UNPACK `(0xC9, 0x00)`. -/
theorem test_pack : pack { dst := 2, src := 5, last := false, func := 0x10 } = [0x2A, 0x10] ∧
    pack { dst := 7, src := 7, last := true, func := 0xFF } = [0x7F, 0xFF] ∧
    unpack 0xC9 0x00 = { dst := 1, src := 1, last := true, func := 0 } := by decide
/-- VALIDATE rows, the reserved bit set among them. -/
theorem test_validate : validate 7 [1, 7, 1, 2, 3, 4, 5] 0xFE = false ∧
    validate 2 [0x80, 0x05] 0x78 = true := by decide

/-! ## Frames received whole (95 S2, S3, X9, §3.3) -/

theorem test_exec_ctrl : after (exec .ctrl (rx .fatal .hunt [0xFF, 0x00, 0x12]))
    (fun s => (s.sig, s.rxState, s.rxq, s.lineIn)) = some (0b001, .hunt, [], [0x12]) := by decide
theorem test_exec_data : after (exec (.data 7 [1, 7, 1, 2, 3, 4, 5] 0xFF) (rx .fatal .hunt frameE1))
    (fun s => (s.rxq, s.sig, s.rxState))
      = some ([{ len := 7, payload := [1, 7, 1, 2, 3, 4, 5] }], 0b010, .hunt) := by decide
/-- S3 under FATAL. -/
theorem test_exec_data_corrupt :
    after (exec (.data 2 [0, 0] 0xFE) (rx .fatal .hunt [0xFF, 2, 0, 0, 0xFE]))
      (fun s => (s.faultCause, s.faultLen, s.faultByte, s.faultCalc, s.errSticky))
        = some (.checksum, 2, 0xFE, 0xFD, 0b01) := by decide
theorem test_exec_badlen_short : after (exec .badlenShort (rx .dropResync .hunt [0xFF, 0x01]))
    (fun s => (s.rxState, s.errSticky, s.sig, s.fault)) = some (.hunt, 0b10, 0, false) := by decide
theorem test_exec_badlen_long : after (exec (.badlenLong 9) (rx .fatal .hunt [0xFF, 0x09]))
    (fun s => (s.rxState, s.faultCause, s.faultLen, s.faultByte, s.faultCalc))
      = some (.len, .length, 9, 9, 0) := by decide

/-! ## RXF steps (95 X1-X18) -/

theorem test_x3 : after (exec .rxHuntStart (rx .fatal .hunt [0xFF, 0xFF]))
    (fun s => (s.rxState, s.rxAcc, s.lineIn)) = some (.len, 0xFF, [0xFF]) := by decide
theorem test_x2 : after (exec (.rxHuntSkip 0) (rx .fatal .hunt [0x00]))
    (fun s => (s.rxState, s.sig, s.lineIn)) = some (.hunt, 0, []) := by decide
theorem test_x5 : after (exec .rxLenCtrl { rx .fatal .len [0x00] with sig := 0b001 })
    (fun s => (s.rxState, s.sig)) = some (.hunt, 0b001) := by decide
theorem test_x6 : after (exec (.rxLenData 7) (rx .fatal .len [0x07]))
    (fun s => (s.rxState, s.rxLen, s.rxCnt, s.rxAcc)) = some (.payload, 7, 0, 0xF8) := by decide
theorem test_x11 : after (exec (.rxLenBad 0xFF) (rx .fatal .len [0xFF, 0x00]))
    (fun s => (s.fault, s.faultCause, s.faultByte, s.errSticky, s.lineIn))
      = some (true, .length, 0xFF, 0b10, [0x00]) := by decide
theorem test_x13 :
    after (exec (.rxPayload 5) { rx .fatal .payload [0x05] with rxLen := 7, rxCnt := 6, rxAcc := 0xFA })
      (fun s => (s.rxBuf[6]?, s.rxCnt, s.rxAcc, s.rxState)) = some (some 5, 7, 0xFF, .cksum) := by
  decide
theorem test_x15 : after (exec (.rxCksumOk 0xFF) (rx .fatal .cksum [0xFF])) (·.rxState)
    = some .push := by decide
theorem test_x16 : after (exec (.rxCksumBad 0xFE) { rx .dropResync .cksum [0xFE] with rxLen := 7 })
    (fun s => (s.rxState, s.sig, s.errSticky, s.fault)) = some (.hunt, 0b010, 0b01, false) := by decide
theorem test_x17 :
    after (exec .rxPush { rx .fatal .push [] with rxLen := 2, rxCnt := 2, sig := 0b001 })
      (fun s => (s.rxState, s.rxq, s.sig)) = some (.hunt, [{ len := 2, payload := [0, 0] }], 0b011) := by
  decide
theorem test_x18 :
    after (exec .rxPush { rx .fatal .push [] with rxLen := 2, rxq := [{ len := 2, payload := [0, 0] }] })
      (fun s => (s.rxState, linReady s)) = some (.push, false) := by decide

/-! ## TXF steps (95 Y1-Y25) -/

theorem test_y1 : after (exec .txCtrl (tx .ctrl 0)) (fun s => (s.lineOut, s.txState, s.txIdx))
    = some ([0xFF], .ctrl, 1) := by decide
theorem test_y2 : after (exec .txCtrl { tx .ctrl 0 with txIdx := 1 })
    (fun s => (s.lineOut, s.txState, s.txIdx, s.txTimer)) = some ([0x00], .suWait, 0, 2) := by decide
theorem test_y7 : after (exec .txSuTick { tx .suWait 0 with txTimer := 2 })
    (fun s => (s.txState, s.txTimer)) = some (.suWait, 1) := by decide
theorem test_y9 : after (exec .txSuSample (tx .suWait 0b001)) (fun s => (s.txState, s.sig))
    = some (.check, 0b001) := by decide
theorem test_y10 :
    after (exec .txSuSample (tx .suWait 0b110)) (fun s => (s.txState, s.txRet, s.sig))
    = some (.ctrl, .suWait, 0b110) := by decide
theorem test_y11 : after (exec .txCheckEmpty (tx .check 0)) (·.txState) = some .wait1 := by decide
theorem test_y12 : after (exec .txCheckDeq { tx .check 0b101 with txq := [packetE1] })
    (fun s => (s.txState, s.txBuf, s.txFlen, s.txq, s.sig))
      = some (.gate, frameE1 ++ [0], 10, [], 0b101) := by decide
theorem test_y18 : after (exec .txWait1 (tx .wait1 0b111)) (fun s => (s.txState, s.txRet, s.sig))
    = some (.ctrl, .check, 0b001) := by decide
theorem test_y15 : after (exec .txWait1 (tx .wait1 0b001)) (fun s => (s.txState, s.sig))
    = some (.wait1, 0b001) := by decide
theorem test_y20 : after (exec .txGate (tx .gate 0b001)) (fun s => (s.txState, s.sig))
    = some (.xmit, 0) := by decide
theorem test_y23 : after (exec .txGate (tx .gate 0b111)) (fun s => (s.txState, s.txRet, s.sig))
    = some (.ctrl, .xmit, 0b100) := by decide
theorem test_y24 :
    after (exec .txXmit { tx .xmit 0 with txBuf := frameE3 ++ List.replicate 6 0, txFlen := 5 })
      (fun s => (s.lineOut, s.txIdx, s.txState)) = some ([0xFF], 1, .xmit) := by decide
theorem test_y25 :
    after (exec .txXmit
        { tx .xmit 0 with txBuf := frameE3 ++ List.replicate 6 0, txFlen := 5, txIdx := 4 })
      (fun s => (s.lineOut, s.txIdx, s.txState)) = some ([0xFD], 0, .check) := by decide

/-! ## Host operations (95 §3.5) and reset -/

theorem test_h1 :
    after (exec (.send false (req 1 0 5 [1, 2, 3, 4, 5])) (host (req 1 0 5 [1, 2, 3, 4, 5]) []))
    (fun s => (s.txq, s.sig, s.responses, s.txValid)) = some ([packetE1], 0b100, [.accepted], false) := by
  decide
/-- The fire vector's example, op 0b11. -/
theorem test_fire_both :
    after (exec (.send true (req 1 0 5 [1, 2, 3, 4, 5]))
        (host (req 1 0 5 [1, 2, 3, 4, 5]) [{ len := 2, payload := [0, 0] }]))
      (fun s => (s.txq.length, s.rxq, s.sig, s.responses, s.delivered.length))
        = some (1, [], 0b100, [.accepted], 1) := by decide
theorem test_h8 : after (exec (.sendReject false (req 9 12 5 [])) (host (req 9 12 5 []) []))
    (fun s => (s.txq, s.sig, s.responses)) = some ([], 0, [.dstRange]) := by decide
theorem test_recv :
    after (exec .recv (host (req 0 0 0 []) [{ len := 7, payload := [1, 7, 1, 2, 3, 4, 5] }]))
      (fun s => (s.rxq, s.delivered))
        = some ([], [{ dst := 1, src := 0, last := false, func := 7, dlen := 5,
                       data := [1, 2, 3, 4, 5] }]) := by decide
/-- 95 §3.6: a reset after a fault. -/
theorem test_init :
    after (exec .init { rx .fatal .cksum [] with
        rst := true, fault := true, faultCause := .checksum, faultLen := 7, errSticky := 0b01 })
      (fun s => (s.rxState, s.fault, s.faultCause, s.faultLen, s.errSticky, s.rxBuf.length))
        = some (.hunt, false, .none, 0, 0, 8) := by decide

/-! ## Witnesses: a state and operands that meet a statement's hypotheses together

A witness is named after its statement. Boundary values: lengths 0, 1, 2, MTU = 8, MTU + 1. -/

/-- A state amid a frame, TXF holding E3 in T_GATE: it meets the invariant, and its step goes on. -/
def amid : State :=
  { rx .fatal .payload [0x07] with
    rxLen := 2, rxCnt := 1, rxAcc := 0xFC, rxBuf := 1 :: List.replicate 7 0
    txState := .gate, txBuf := frameE3 ++ List.replicate 6 0, txFlen := 5
    agenda := [.rxf] }

theorem amid_inv : EndInv amid := by
  refine ⟨⟨rfl, rfl⟩, ?_, ?_, ?_, ?_⟩
  · simp [queuesOk, amid, rx, small, State.reset]
  · simp only [receiverOk, amid, rx]; decide
  · refine ⟨by decide, by decide, by decide, by decide, by decide, fun _ => ?_⟩
    exact ⟨{ route := { dst := 0, src := 0, last := false, func := 0 }, dlen := 0, data := [] },
      by decide, by decide, by decide⟩
  · simp [faultOk, amid, rx, small, State.reset]

theorem witness_EveryStepKeepsTheInvariant : EndInv amid ∧ ∃ t, step amid = .next t :=
  ⟨amid_inv, _, rfl⟩
theorem witness_NoStepStopsUnderTheInvariant : EndInv amid := amid_inv

theorem witness_DecodingAnEncodedInstructionGivesItBack :
    (ctx 0 true true).ok = true ∧ (Instr.data 8 (List.replicate 8 0) 0).wf (ctx 0 true true) = true ∧
    (Instr.data 2 [0xFF, 0] 0).wf (ctx 0 true true) = true ∧
    encode (.data 2 [0xFF, 0] 0) = .wire [0xFF, 2, 0xFF, 0, 0] := by decide
theorem witness_DecodedInstructionsAreWellFormed :
    (ctx 0 true true).ok = true ∧ decode (ctx 0 true true) (.rxf 0b001_00001001) = .ok (.rxLenBad 9) := by
  decide
theorem witness_AStepRunsTheDecodedInstruction :
    environmentTurn (nextTurn amid) (afterFetch amid) = none ∧
    fetchCode (nextTurn amid) (afterFetch amid) = some (.rxf 0b010_00000111) ∧
    decode (selectCtx (afterFetch amid)) (.rxf 0b010_00000111) = .ok (.rxPayload 7) := by
  refine ⟨by decide, by decide, by decide⟩

/-- One state for each clause: the state's `rst`, `rxState` and the byte offered. -/
theorem witness_RxfTurnRunsTheSelectedStep :
    (rx .fatal .hunt [0xFF]).rst = false ∧ (rx .fatal .hunt [0xFF]).rxState = .hunt ∧
    (rx .fatal .hunt [0xFE]).lineIn = 0xFE :: [] ∧
    (rx .fatal .len [0x00]).rxState = .len ∧ (rx .fatal .len [0x00]).lineIn = 0x00 :: [] ∧
    (rx .fatal .len [0x02]).lineIn = 0x02 :: [] ∧
    2 ≤ (8 : Byte).toNat ∧ (8 : Byte).toNat ≤ (rx .fatal .len [0x08]).cfg.mtu ∧
    ¬ (2 ≤ (1 : Byte).toNat ∧ (1 : Byte).toNat ≤ (rx .fatal .len [0x01]).cfg.mtu) ∧
    ¬ (2 ≤ (9 : Byte).toNat ∧ (9 : Byte).toNat ≤ (rx .fatal .len [0x09]).cfg.mtu) := by decide
theorem witness_RxfTurnRunsTheSelectedStep_rest :
    (rx .fatal .payload [0xFF]).rxState = .payload ∧
    (rx .fatal .cksum [0xFF]).rxAcc = 0xFF ∧ (rx .fatal .cksum [0xFE]).rxAcc ≠ 0xFE ∧
    (rx .fatal .push []).rxState = .push ∧ (rx .fatal .len []).lineIn = [] := by decide
theorem witness_TxfTurnRunsTheSelectedStep :
    (tx .ctrl 0).rst = false ∧ (tx .ctrl 0).txState = .ctrl ∧
    ({ tx .suWait 0 with txTimer := 1 } : State).txTimer ≠ 0 ∧ (tx .suWait 0).txTimer = 0 ∧
    (tx .check 0).txq = [] ∧ ({ tx .check 0 with txq := [packetE1] } : State).txq ≠ [] ∧
    (tx .wait1 0).txState = .wait1 ∧ (tx .gate 0).txState = .gate ∧ (tx .xmit 0).txState = .xmit := by
  decide
/-- A turn of the host sender alone (0b01), of the host receiver alone (0b10) and of both (0b11), for each clause:
both channels firing, neither, and the rejected SEND. -/
theorem witness_HostTurnRunsTheFireVector :
    ∀ s ∈ [host (req 1 0 5 []) [{ len := 2, payload := [0, 0] }]],
    ∀ r ∈ [host (req 8 0 5 []) [{ len := 2, payload := [0, 0] }]],
    s.rst = false ∧ r.rst = false ∧
    fireVector (small .fatal) &&& 0b11 = 0b00 ∧ fireVector s &&& 0b00 = 0b00 ∧
    fireVector s &&& 0b10 = 0b10 ∧ fireVector s &&& 0b01 = fireOp false true ∧
    fireVector s &&& 0b11 = fireOp true true ∧ sendCheck s.cfg.mtu s.txChan = .accepted ∧
    fireVector r &&& 0b01 = fireOp false true ∧ fireVector r &&& 0b11 = fireOp true true ∧
    sendCheck r.cfg.mtu r.txChan ≠ .accepted := by decide
theorem witness_AWaitingInstructionChangesNothing :
    enabled .txWait1 (tx .wait1 0b001) = false := by decide

/-- The hypotheses the RXF statements share. -/
theorem witness_HuntTakesAStartAndSkipsFill : ∀ b ∈ [(0xFF : Byte), 0xFE, 0x00],
    (rx .fatal .hunt [b]).rst = false ∧ (rx .fatal .hunt [b]).fault = false ∧
    (rx .fatal .hunt [b]).rxState = .hunt ∧ (rx .fatal .hunt [b]).lineIn = b :: [] := by decide
theorem witness_LegalLengthBytesAreTaken : ∀ b ∈ [(0 : Byte), 2, 8],
    (rx .fatal .len [b]).rst = false ∧ (rx .fatal .len [b]).fault = false ∧
    (rx .fatal .len [b]).rxState = .len ∧ (rx .fatal .len [b]).lineIn = b :: [] ∧
    (b = 0 ∨ (2 ≤ b.toNat ∧ b.toNat ≤ (rx .fatal .len [b]).cfg.mtu)) := by decide
theorem witness_ABadLengthIsALengthError :
    ∀ p ∈ [ErrPolicy.fatal, .dropResync], ∀ b ∈ [(1 : Byte), 9, 0xFF],
    (rx p .len [b]).rst = false ∧ (rx p .len [b]).fault = false ∧ (rx p .len [b]).rxState = .len ∧
    (rx p .len [b]).lineIn = b :: [] ∧ (rx p .len [b]).cfg.errPolicy = p ∧
    (b = 1 ∨ (rx p .len [b]).cfg.mtu < b.toNat) := by decide
theorem witness_APayloadByteIsStoredAndCounted :
    amid.rst = false ∧ amid.fault = false ∧ amid.rxState = .payload ∧ amid.lineIn = 0x07 :: [] ∧
    amid.rxCnt.toNat < amid.rxBuf.length := by decide
theorem witness_APayloadByteIsStoredAndCounted_last :
    ({ amid with rxLen := 8, rxCnt := 7 } : State).rxCnt.toNat < amid.rxBuf.length := by decide

/-- RXF in R_CKSUM after the payload of E3. -/
def checking (policy : ErrPolicy) (c : Byte) : State :=
  { rx policy .cksum [c] with rxLen := 2, rxCnt := 2, rxAcc := 0xFD }

theorem witness_AMatchingChecksumHoldsTheFrame :
    (checking .fatal 0xFD).rst = false ∧ (checking .fatal 0xFD).fault = false ∧
    (checking .fatal 0xFD).rxState = .cksum ∧
    (checking .fatal 0xFD).lineIn = (checking .fatal 0xFD).rxAcc :: [] ∧
    EndInv (checking .fatal 0xFD) := by
  refine ⟨by decide, by decide, by decide, by decide, ⟨rfl, rfl⟩, ?_, ?_, ?_, ?_⟩
  · simp [queuesOk, checking, rx, small, State.reset]
  · simp only [receiverOk, checking, rx]; decide
  · refine ⟨by decide, by decide, by decide, by decide, by decide, fun h => ?_⟩
    exact absurd h (by decide)
  · simp [faultOk, checking, rx, small, State.reset]
theorem witness_AChecksumMismatchIsAnError : ∀ p ∈ [ErrPolicy.fatal, .dropResync],
    (checking p 0xFE).rst = false ∧ (checking p 0xFE).fault = false ∧
    (checking p 0xFE).rxState = .cksum ∧ (checking p 0xFE).lineIn = 0xFE :: [] ∧
    (0xFE : Byte) ≠ (checking p 0xFE).rxAcc ∧ (checking p 0xFE).cfg.errPolicy = p := by decide
theorem witness_AHeldFrameIsPushedWhenThereIsRoom :
    ∀ q ∈ [[], [({ len := 2, payload := [0, 0] } : FrameRec)]],
    ∀ s ∈ [{ rx .fatal .push [] with rxLen := 8, rxq := q }],
    s.rst = false ∧ s.fault = false ∧ s.rxState = .push ∧ s.rxLen.toNat ≤ s.rxBuf.length ∧
    (if q = [] then s.rxq.length < s.cfg.rxqDepth else s.cfg.rxqDepth ≤ s.rxq.length) := by decide

theorem witness_TwoByteFramesAreReceivedWhole :
    ∀ p ∈ [ErrPolicy.fatal, .dropResync], ∀ l ∈ [(0 : Byte), 1, 9],
    (rx p .hunt [0xFF, l]).rst = false ∧ (rx p .hunt [0xFF, l]).fault = false ∧
    (rx p .hunt [0xFF, l]).rxState = .hunt ∧ (rx p .hunt [0xFF, l]).lineIn = 0xFF :: l :: [] ∧
    (rx p .hunt [0xFF, l]).cfg.errPolicy = p ∧
    (l = 0 ∨ l = 1 ∨ (rx p .hunt [0xFF, l]).cfg.mtu < l.toNat) := by decide
theorem witness_AGoodDataFrameIsReceivedWhole :
    ∀ q ∈ [[], [({ len := 2, payload := [0, 0] } : FrameRec)]],
    ∀ l ∈ [(2 : Byte), 8], ∀ p ∈ [List.replicate l.toNat (0x5A : Byte)],
    ∀ s ∈ [{ rx .fatal .hunt (dataFrame l p (cksumFrame l p) ++ []) with rxq := q }],
    s.rst = false ∧ s.fault = false ∧ s.rxState = .hunt ∧ s.rxBuf.length = s.cfg.mtu ∧
    2 ≤ l.toNat ∧ l.toNat ≤ s.cfg.mtu ∧ p.length = l.toNat ∧
    s.lineIn = dataFrame l p (cksumFrame l p) ++ [] ∧
    (if q = [] then s.rxq.length < s.cfg.rxqDepth else s.cfg.rxqDepth ≤ s.rxq.length) := by decide
theorem witness_ACorruptDataFrameIsNotDelivered : ∀ pol ∈ [ErrPolicy.fatal, .dropResync],
    ∀ l ∈ [(2 : Byte), 8], ∀ p ∈ [List.replicate l.toNat (0x5A : Byte)],
    ∀ s ∈ [rx pol .hunt (dataFrame l p 0x77 ++ [])],
    s.rst = false ∧ s.fault = false ∧ s.rxState = .hunt ∧ s.rxBuf.length = s.cfg.mtu ∧
    l.toNat ≤ s.cfg.mtu ∧ p.length = l.toNat ∧ (0x77 : Byte) ≠ cksumFrame l p ∧
    s.lineIn = dataFrame l p 0x77 ++ [] ∧ s.cfg.errPolicy = pol := by decide
theorem witness_AWholeFrameIsTheRunOfItsByteSteps :
    enabled (.data 2 [0, 0] 0xFD) (rx .fatal .hunt frameE3) = true := by decide

/-- The hypotheses of the TXF statements, a state for each clause. -/
theorem witness_TheCtrlFrameIsEmittedByteByByte : ∀ r ∈ [true, false], ∀ i ∈ [(0 : BitVec 9), 1],
    ∀ ret ∈ [TxRet.suWait, .check, .gate, .xmit],
    ∀ s ∈ [{ tx .ctrl 0 with loutReady := r, txIdx := i, txRet := ret }],
    s.rst = false ∧ s.fault = false ∧ s.txState = .ctrl ∧ s.loutReady = r ∧ s.txIdx = i ∧
    s.txRet = ret := by decide
theorem witness_StartupTicksThenSamplesReady : ∀ n ∈ [0, 1, 2], ∀ g ∈ [(0b110 : BitVec 3), 0b001],
    ∀ s ∈ [{ tx .suWait g with txTimer := n }],
    s.rst = false ∧ s.fault = false ∧ s.txState = .suWait ∧ s.txTimer = n ∧
    s.sig.getLsbD 0 = decide (g = 0b001) := by decide
theorem witness_TheQueueIsTestedAndDequeued :
    (tx .check 0).rst = false ∧ (tx .check 0).fault = false ∧ (tx .check 0).txState = .check ∧
    (tx .check 0).txq = [] ∧
    ({ tx .check 0 with txq := [packetE1] } : State).txq = packetE1 :: [] ∧
    Packet.fits (tx .check 0).cfg.mtu packetE1 = true ∧
    (tx .check 0).txBuf.length = (tx .check 0).cfg.mtu + 3 := by decide
theorem witness_Wait1ServesAnAckFirst_and_TheGateReleasesOnReady :
    ∀ st ∈ [TxState.wait1, .gate], ∀ g : BitVec 3,
    (tx st g).rst = false ∧ (tx st g).fault = false ∧ (tx st g).txState = st ∧ (tx st g).sig = g := by
  decide

/-- TXF in T_XMIT with E3's frame. -/
def sending (r : Bool) (i : BitVec 9) : State :=
  { tx .xmit 0 with
    txBuf := frameE3 ++ List.replicate 6 0, txFlen := 5, txIdx := i, loutReady := r }

theorem witness_TheDataFrameIsEmittedByteByByte : ∀ r ∈ [true, false], ∀ i ∈ [(0 : BitVec 9), 4],
    (sending r i).rst = false ∧ (sending r i).fault = false ∧ (sending r i).txState = .xmit ∧
    (sending r i).loutReady = r ∧
    (sending r i).txBuf[(sending r i).txIdx.toNat]? = some (if i = 0 then 0xFF else 0xFD) ∧
    (i = 4 ↔ (sending r i).txIdx + 1 = (sending r i).txFlen) := by decide
theorem witness_TxfEmitsTheWholeHeldFrame :
    (sending true 0).rst = false ∧ (sending true 0).fault = false ∧
    (sending true 0).txState = .xmit ∧ (sending true 0).txIdx = 0 ∧
    (sending true 0).loutReady = true ∧ 0 < (sending true 0).txFlen.toNat ∧
    (sending true 0).txFlen.toNat ≤ (sending true 0).txBuf.length := by decide

theorem witness_SendCheckReportsTheFirstViolation :
    (req 8 8 7 []).dlen.toNat > 8 - 2 ∧ (req 8 0 6 []).dlen.toNat ≤ 8 - 2 ∧ (req 8 0 6 []).dst.toNat > 7 ∧
    (req 7 8 6 []).dst.toNat ≤ 7 ∧ (req 7 8 6 []).src.toNat > 7 ∧ (req 7 7 6 []).src.toNat ≤ 7 := by
  decide
theorem witness_AnAcceptedSendQueuesThePacket : ∀ t ∈ [req 7 7 6 [1], req 0 0 0 []],
    ∀ s ∈ [host t [{ len := 2, payload := [0x80, 5] }]],
    s.rst = false ∧ s.fault = false ∧ s.txValid = true ∧ s.txChan = t ∧
    sendCheck s.cfg.mtu t = .accepted ∧ s.txq.length < s.cfg.txqDepth ∧ s.rxReady = true ∧
    s.rxq = { len := 2, payload := [0x80, 5] } :: [] ∧
    (decodeRecord s.cfg.mtu { len := 2, payload := [0x80, 5] }).isSome = true := by decide
theorem witness_ARejectedSendChangesNoBlockState : ∀ t ∈ [req 1 0 7 [], req 8 0 0 [], req 0 8 0 []],
    ∀ s ∈ [{ host t [{ len := 2, payload := [0, 0] }] with txq := [packetE1, packetE1] }],
    s.rst = false ∧ s.fault = false ∧ s.txValid = true ∧ s.txChan = t ∧
    sendCheck s.cfg.mtu t ≠ .accepted ∧ s.rxReady = true ∧
    s.rxq = { len := 2, payload := [0, 0] } :: [] ∧
    (decodeRecord s.cfg.mtu { len := 2, payload := [0, 0] }).isSome = true := by decide
theorem witness_RecvReturnsTheDecodedHead :
    ∀ d ∈ [[], List.replicate 6 (0xFF : Byte)], ∀ l ∈ [BitVec.ofNat 8 (d.length + 2)],
    ∀ s ∈ [host (req 0 0 0 []) [{ len := l, payload := 0x41 :: 7 :: d }]],
    s.rst = false ∧ s.fault = false ∧ s.rxReady = true ∧
    s.rxq = { len := l, payload := 0x41 :: 7 :: d } :: [] ∧ l.toNat = d.length + 2 ∧
    l.toNat ≤ s.cfg.mtu := by decide
theorem witness_TheHostChannelsAreIndependent :
    enabled (.send true (req 1 0 5 [])) (host (req 1 0 5 []) [{ len := 2, payload := [0, 0] }]) = true ∧
    enabled (.sendReject true (req 8 0 5 [])) (host (req 8 0 5 []) [{ len := 2, payload := [0, 0] }])
      = true := by decide
theorem witness_HostOperationsWaitForTheQueues :
    ∀ s ∈ [{ host (req 1 0 5 []) [] with txq := [packetE1, packetE1] }],
    s.txChan = req 1 0 5 [] ∧ sendCheck s.cfg.mtu (req 1 0 5 []) = .accepted ∧
    s.cfg.txqDepth ≤ s.txq.length ∧ s.rxq = [] := by decide
theorem witness_InitTakesTheResetValues_and_OutputsAreZeroDuringReset :
    ({ amid with rst := true } : State).rst = true := by decide

/-- The state S3 leaves under FATAL, with the line's next byte offered. -/
def faulted : State :=
  { checking .fatal 0x00 with
    fault := true, faultCause := .checksum, faultLen := 2, faultByte := 0xFE, faultCalc := 0xFD
    errSticky := 0b01, agenda := [.rxf] }

theorem witness_TheFaultedBlockIsQuiescent : faulted.fault = true := by decide
/-- A step into the fault state, in RXF's own turn. -/
theorem witness_AFaultIsPrecise :
    ∃ s t : State, step s = .next t ∧ s.fault = false ∧ t.fault = true ∧ nextTurn s ≠ .frame :=
  ⟨{ checking .fatal 0xFE with agenda := [.rxf] }, _, rfl, rfl, rfl, by decide⟩
/-- A step into the fault state, in the turn of a whole frame (95 S3). -/
theorem witness_AFaultIsPrecise_frame :
    ∃ s t : State, step s = .next t ∧ s.fault = false ∧ t.fault = true :=
  ⟨{ rx .fatal .hunt [0xFF, 2, 0, 0, 0xFE] with agenda := [.frame] }, _, rfl, rfl, rfl⟩
/-- A step out of it. -/
theorem witness_OnlyResetLeavesTheFaultState :
    ∃ s t : State, step s = .next t ∧ s.fault = true ∧ t.fault = false :=
  ⟨{ faulted with rst := true }, _, rfl, rfl, rfl⟩
theorem witness_StickyBitsAreNeverClearedButByReset :
    ∃ s t : State, step s = .next t ∧ s.rst = false ∧ s.errSticky = 0b10 ∧ t.errSticky = 0b11 :=
  ⟨{ checking .dropResync 0xFE with errSticky := 0b10, agenda := [.rxf] }, _, rfl, rfl, rfl, rfl⟩
theorem witness_TheConfigurationChangesAtResetOnly :
    ∃ t, step { amid with rst := true, pins := params .dropResync } = .next t ∧
      t.cfg.errPolicy = .dropResync :=
  ⟨_, rfl, rfl⟩

theorem witness_ALineByteIsTakenExactlyWhenReady :
    ∃ t, perform .rxf amid = .next t ∧ amid.lineIn = 0x07 :: [] ∧
    linReady amid = true :=
  ⟨_, rfl, rfl, rfl⟩
theorem witness_ALineByteLeavesExactlyWhenValidAndReady :
    ∃ t, perform .txf (sending true 4) = .next t ∧
    loutValid (sending true 4) = true :=
  ⟨_, rfl, rfl⟩
theorem witness_HostTransfersFireExactlyWhenValidAndReady :
    ∃ t, perform (.host 0b11) (host (req 8 0 5 []) [{ len := 2, payload := [0, 0] }]) = .next t ∧
      t.responses = [.dstRange] ∧ t.delivered.length = 1 :=
  ⟨_, rfl, rfl, rfl⟩
/-- The host sender's own turn transfers on the TX channel only. -/
theorem witness_HostTransfersFireExactlyWhenValidAndReady_sender :
    ∃ t, perform (.host 0b01) (host (req 8 0 5 []) [{ len := 2, payload := [0, 0] }]) = .next t ∧
      t.responses = [.dstRange] ∧ t.delivered = [] :=
  ⟨_, rfl, rfl, rfl⟩
/-- The host receiver's own turn transfers on the RX channel only. -/
theorem witness_HostTransfersFireExactlyWhenValidAndReady_receiver :
    ∃ t, perform (.host 0b10) (host (req 8 0 5 []) [{ len := 2, payload := [0, 0] }]) = .next t ∧
      t.responses = [] ∧ t.delivered.length = 1 :=
  ⟨_, rfl, rfl, rfl⟩
theorem witness_TheQueuesAreFifos :
    ∃ s t : State, step s = .next t ∧ s.rst = false ∧ s.txq = packetE1 :: t.txq :=
  ⟨{ tx .check 0 with txq := [packetE1], agenda := [.txf] }, _, rfl, rfl, rfl⟩

theorem witness_DecodingAnEncodedPacketGivesItBack :
    2 ≤ 8 ∧ 8 ≤ 255 ∧ Packet.fits 8 packetE1 = true ∧
    Packet.fits 2 { packetE1 with dlen := 0, data := [] } = true := by decide
theorem witness_ACorruptionIsDetectedIffItsXorIsNotZero :
    [(0 : Byte), 2].length = [(0 : Byte), 0].length ∧ validate 2 [0, 0] 0xFD = true := by decide

theorem witness_SignalsChangeAsTheirTableSays : ∃ t, exec .txGate (tx .gate 0b011) = .next t ∧
    enabled .txGate (tx .gate 0b011) = true ∧ t.sig = 0 :=
  ⟨_, rfl, rfl, rfl⟩
theorem witness_StartupRunsOncePerReset :
    ∃ s t : State, step s = .next t ∧ startupDone s = true ∧ t.rst = false ∧ t.txState = .ctrl :=
  ⟨{ tx .wait1 0b010 with agenda := [.txf] }, _, rfl, rfl, rfl, rfl⟩
/-- 41_queues_signals R130's row: a consume of {ACK, READY} and a set of READY in one cycle. -/
theorem witness_ACycleCombinesSignalsConsumeThenSet :
    ∃ s t : State, s.rst = false ∧ cycle s = .next t ∧ t.sig = 0b001 :=
  ⟨{ tx .gate 0b001 with rxState := .len, rxAcc := 0xFF, lineIn := [0] }, _, rfl, rfl, rfl⟩

/-- The step counter advances once in a cycle (log 22). -/
theorem test_cycle_counts :
    after (cycle { small .fatal with rst := true }) (·.freeCount) = some 1 := by decide

/-! ## The link -/

/-- Both ends after startup, each with one credit; A's host has queued E1's packet. -/
def linked : Link :=
  { a := { tx .wait1 0b101 with txq := [packetE1] }, b := tx .wait1 0b001,
    sentA := [packetE1], sentB := [] }

theorem tx_inv (g : BitVec 3) (q : List Packet) (hl : q.length ≤ 2)
    (hq : ∀ k ∈ q, Packet.fits 8 k = true) : EndInv { tx .wait1 g with txq := q } := by
  refine ⟨by simp [buffersOk, tx, small, params], ⟨hl, hq, Nat.zero_le _, by simp [tx, small, State.reset]⟩,
    trivial, ?_, ?_⟩
  · simp [senderOk, tx, small, State.reset, holdsFrame]
  · simp [faultOk, tx, small, State.reset]

theorem linked_inv : LinkInv linked := by
  refine ⟨tx_inv _ _ (by decide) (by decide), tx_inv _ [] (by decide) (by decide), by decide, by decide,
    by decide, by decide, by decide, ?_, ?_, ?_, ?_⟩
  · unfold aligned; decide
  · unfold aligned; decide
  · unfold inOrder; decide
  · unfold inOrder; decide

theorem witness_AnIdealLineDeliversInOrder :
    LinkInv linked ∧ linkTurn .txf = true := ⟨linked_inv, rfl⟩
theorem witness_TheCreditTotalNeverGrowsAfterStartup :
    LinkInv linked ∧ linkTurn .txf = true ∧ startupDone linked.a = true ∧
    startupDone linked.b = true ∧ (∃ l', linkStep .a .txf linked = some l') ∧
    creditTotal linked.a linked.b = 1 ∧ creditTotal linked.b linked.a = 1 :=
  ⟨linked_inv, rfl, rfl, rfl, ⟨_, rfl⟩, by decide, by decide⟩

end Sys2Proof.Tests
end

section
/-! PROOFS. The family 00_scope: what every instruction does while it waits (R13, R15), what a turn runs
(R14), and a whole DATA frame as RXF's turns over its bytes. -/

namespace Sys2Proof.Machine

/-! ## An instruction is its await and its meaning -/

/-- What an instruction does once its `await` holds. -/
def meaning : Instr → State → Result
  | .ctrl, s => receiveBytes [startByte, 0] s
  | .data len payload c, s => andThen (receiveBytes (dataFrame len payload c) s) pushHeld
  | .badlenShort, s => receiveBytes [startByte, 1] s
  | .badlenLong len, s => receiveBytes [startByte, len] s
  | .rxHuntStart, s => .next (huntStart s)
  | .rxHuntSkip _, s => .next (huntSkip s)
  | .rxLenCtrl, s => .next (lenCtrl s)
  | .rxLenData b, s => .next (lenData b s)
  | .rxLenBad b, s => .next (lenBad b s)
  | .rxPayload b, s => payloadByte b s
  | .rxCksumOk _, s => .next (cksumOk s)
  | .rxCksumBad b, s => .next (cksumBad b s)
  | .rxPush, s => pushFrame s
  | .txCtrl, s => .next (ctrlEmit s)
  | .txSuTick, s => .next (suTick s)
  | .txSuSample, s => .next (suSample s)
  | .txCheckEmpty, s => .next (checkEmpty s)
  | .txCheckDeq, s => checkDeq s
  | .txWait1, s => .next (wait1Observe s)
  | .txGate, s => .next (gateObserve s)
  | .txXmit, s => xmitByte s
  | .send rxFire t, s => deliverIf rxFire (acceptPacket t s)
  | .sendReject rxFire t, s => deliverIf rxFire (rejectPacket t s)
  | .recv, s => deliverHead s
  | .init, s => .next (initState s)

theorem exec_eq_whenEnabled (i : Instr) (s : State) :
    exec i s = whenEnabled i s (meaning i s) := by
  cases i <;> rfl

theorem exec_of_enabled {i : Instr} {s : State} (h : enabled i s = true) :
    exec i s = meaning i s := by
  rw [exec_eq_whenEnabled, whenEnabled_of_enabled h]

theorem exec_of_waiting {i : Instr} {s : State} (h : enabled i s = false) :
    exec i s = .next s := by
  rw [exec_eq_whenEnabled, whenEnabled_of_waiting h]

/-! ## What a turn runs -/

theorem perform_of_environmentTurn {t : Turn} {s s' : State} (h : environmentTurn t s = some s') :
    perform t s = .next s' := by
  simp [perform, h]

theorem perform_of_decode {t : Turn} {s : State} {code : Code} {i : Instr}
    (henv : environmentTurn t s = none) (hcode : fetchCode t s = some code)
    (hdecode : decode (selectCtx s) code = .ok i) : perform t s = exec i s := by
  simp [perform, henv, hcode, hdecode]

/-! ## RXF's turn -/

@[simp] theorem rxfWord_state (st : BitVec 3) (b : Byte) : (rxfWord st b).extractLsb' 8 3 = st :=
  BitVec.extractLsb'_append_eq_left

@[simp] theorem rxfWord_byte (st : BitVec 3) (b : Byte) : (rxfWord st b).extractLsb' 0 8 = b :=
  BitVec.extractLsb'_append_eq_right

/-- The row of R86 that RXF's state selects for the byte `b`. -/
def rxfRow (b : Byte) (s : State) : Instr :=
  match s.rxState with
  | .hunt => if b = startByte then .rxHuntStart else .rxHuntSkip b
  | .len => if b = 0 then .rxLenCtrl else if legalLen s.cfg.mtu b then .rxLenData b else .rxLenBad b
  | .payload => .rxPayload b
  | .cksum => if b = s.rxAcc then .rxCksumOk b else .rxCksumBad b
  | .push => .rxPush

theorem decode_rxfWord (b : Byte) (s : State) :
    decode (selectCtx s) (.rxf (rxfWord (rxCode s.rxState) b)) = .ok (rxfRow b s) := by
  simp only [decode, rxfWord_state, rxfWord_byte, rxfRow]
  cases s.rxState <;> rfl

/-- RXF's turn on an offered byte runs the row that R86 selects. -/
theorem perform_rxf_of_offered {b : Byte} {rest : List Byte} {s : State} (hrst : s.rst = false)
    (hpush : s.rxState ≠ .push) (hline : s.lineIn = b :: rest) :
    perform .rxf s = exec (rxfRow b s) s :=
  perform_of_decode rfl (by simp [fetchCode, hrst, rxfCode, hpush, hline]) (decode_rxfWord b s)

/-- RXF's turn in R_PUSH is RX_PUSH, whatever the line offers. -/
theorem perform_rxf_of_push {s : State} (hrst : s.rst = false) (hpush : s.rxState = .push) :
    perform .rxf s = exec .rxPush s :=
  perform_of_decode (code := .rxf (rxfWord (rxCode .push) 0)) rfl
    (by simp [fetchCode, hrst, rxfCode, hpush]) rfl

theorem enabled_rxfRow {b : Byte} {rest : List Byte} {s : State} (hrun : running s = true)
    (hpush : s.rxState ≠ .push) (hline : s.lineIn = b :: rest) : enabled (rxfRow b s) s = true := by
  have hawait : awaitByte s.rxState b s = true := awaitByte_iff.2 ⟨hrun, rfl, rest, hline⟩
  unfold rxfRow
  split <;> rename_i hs <;> rw [hs] at hawait
  case h_1 =>
    split <;> rename_i hb
    · subst hb; exact hawait
    · simp only [enabled, hawait, Bool.true_and, bne_iff_ne]; exact hb
  case h_2 =>
    split <;> rename_i hb
    · subst hb; exact hawait
    · split <;> rename_i hl
      · simp only [enabled, hawait, hl, Bool.and_self]
      · simp only [enabled, hawait, hl, Bool.true_and, Bool.not_false, Bool.and_true, bne_iff_ne]
        exact hb
  case h_3 => exact hawait
  case h_4 =>
    split <;> rename_i hb
    · simp only [enabled, hawait, beq_iff_eq, Bool.true_and]; exact hb
    · simp only [enabled, hawait, bne_iff_ne, Bool.true_and]; exact hb
  case h_5 => exact absurd hs hpush

theorem meaning_rxfRow {b : Byte} {s : State} (hrun : running s = true)
    (hpush : s.rxState ≠ .push) : meaning (rxfRow b s) s = receiveByte b s := by
  unfold rxfRow receiveByte
  rw [if_pos hrun]
  cases hs : s.rxState with
  | hunt => dsimp only; split <;> rfl
  | len =>
    dsimp only
    split
    · rfl
    · split <;> rfl
  | payload => rfl
  | cksum => dsimp only; split <;> rfl
  | push => exact absurd hs hpush

/-- RXF's turn on an offered byte, fetched and decoded, is the byte step of the frame rows (log 7). -/
theorem perform_rxf_eq_receiveByte {b : Byte} {rest : List Byte} {s : State}
    (hrun : running s = true) (hpush : s.rxState ≠ .push) (hline : s.lineIn = b :: rest) :
    perform .rxf s = receiveByte b s := by
  calc perform .rxf s = exec (rxfRow b s) s :=
        perform_rxf_of_offered (running_iff.1 hrun).1 hpush hline
    _ = meaning (rxfRow b s) s := exec_of_enabled (enabled_rxfRow hrun hpush hline)
    _ = receiveByte b s := meaning_rxfRow hrun hpush

/-- The push at the end of a DATA frame is RXF's turn in R_PUSH, and nothing in the other states. -/
theorem pushHeld_eq_perform_rxf {s : State} (hrst : s.rst = false) :
    pushHeld s = if s.rxState = .push then perform .rxf s else .next s := by
  by_cases hpush : s.rxState = .push
  · rw [if_pos hpush, perform_rxf_of_push hrst hpush, exec_eq_whenEnabled]
    rfl
  · simp [pushHeld, hpush]

/-! ## Runs of byte steps -/

theorem andThen_congr {r : Result} {k k' : State → Result}
    (h : ∀ t, r = .next t → k t = k' t) : andThen r k = andThen r k' := by
  cases r with
  | next t => exact h t rfl
  | fault f => rfl
  | refused x => rfl

@[simp] theorem lenBad_rst (b : Byte) (s : State) : (lenBad b s).rst = s.rst := by
  unfold lenBad; split <;> rfl

@[simp] theorem cksumBad_rst (b : Byte) (s : State) : (cksumBad b s).rst = s.rst := by
  unfold cksumBad; split <;> rfl

theorem receiveByte_rst {b : Byte} {s t : State} (h : receiveByte b s = .next t) :
    t.rst = s.rst := by
  obtain ⟨-, rfl⟩ | ⟨-, hrow⟩ := receiveByte_next h
  · rfl
  obtain ⟨-, -, rfl⟩ | ⟨-, -, rfl⟩ | ⟨-, -, rfl⟩ | ⟨-, -, -, rfl⟩ | ⟨-, -, -, rfl⟩ | ⟨-, hstored⟩ |
    ⟨-, -, rfl⟩ | ⟨-, -, rfl⟩ | ⟨-, rfl⟩ := hrow
  · rfl
  · rfl
  · rfl
  · rfl
  · exact lenBad_rst b s
  · obtain ⟨-, rfl⟩ := payloadByte_next hstored; rfl
  · rfl
  · exact cksumBad_rst b s
  · rfl

theorem receiveBytes_rst {bs : List Byte} {s t : State} (h : receiveBytes bs s = .next t) :
    t.rst = s.rst := by
  induction bs generalizing s with
  | nil => cases h; rfl
  | cons b bs ih =>
    obtain ⟨u, hu, ht⟩ := andThen_eq_next.1 h
    rw [ih ht, receiveByte_rst hu]

/-! ## A DATA frame byte by byte -/

/-- RXF is inside a DATA frame with `n` payload bytes still to come, then the checksum byte. -/
def insideFrame (n : Nat) (s : State) : Prop :=
  running s = true ∧
  ((s.rxState = .payload ∧ 0 < n ∧ s.rxCnt.toNat + n = s.rxLen.toNat) ∨
    (s.rxState = .cksum ∧ n = 0))

theorem insideFrame_not_push {n : Nat} {s : State} (h : insideFrame n s) : s.rxState ≠ .push := by
  obtain ⟨-, ⟨hs, -⟩ | ⟨hs, -⟩⟩ := h <;> simp [hs]

theorem insideFrame_lenData {len : Byte} {s : State} (hrun : running s = true)
    (hpos : 0 < len.toNat) : insideFrame len.toNat (lenData len s) :=
  ⟨hrun, .inl ⟨rfl, hpos, by simp [lenData]⟩⟩

/-- A payload byte takes RXF one byte further in the frame (R145). -/
theorem insideFrame_receiveByte {b : Byte} {n : Nat} {s t : State} (h : insideFrame (n + 1) s)
    (ht : receiveByte b s = .next t) : insideFrame n t ∧ t.lineIn = s.lineIn.tail := by
  obtain ⟨hrun, ⟨hs, -, hcnt⟩ | ⟨-, hn⟩⟩ := h
  · have hp : payloadByte b s = .next t := by simpa [receiveByte, hrun, hs] using ht
    obtain ⟨-, rfl⟩ := payloadByte_next hp
    have hlen := s.rxLen.isLt
    have hnext : (s.rxCnt + 1).toNat = s.rxCnt.toNat + 1 := by
      rw [BitVec.toNat_add_of_lt] <;> simp; omega
    have hlast : s.rxCnt + 1 = s.rxLen ↔ n = 0 := by
      rw [← BitVec.toNat_inj, hnext]; omega
    refine ⟨⟨hrun, ?_⟩, rfl⟩
    by_cases hn : n = 0
    · exact .inr ⟨if_pos (hlast.2 hn), hn⟩
    · exact .inl ⟨if_neg (mt hlast.1 hn), Nat.pos_of_ne_zero hn, by simp only [hnext]; omega⟩
  · cases hn

/-- RXF's turns over the rest of a frame are the run of its byte steps: R_PUSH is not reached before the
checksum byte, so every turn takes one byte. -/
theorem receiveBytes_eq_runTurns {p : List Byte} {c : Byte} {rest : List Byte} {s : State}
    (h : insideFrame p.length s) (hline : s.lineIn = p ++ c :: rest) :
    receiveBytes (p ++ [c]) s = runTurns (List.replicate (p.length + 1) .rxf) s := by
  induction p generalizing s with
  | nil =>
    have hturn := perform_rxf_eq_receiveByte h.1 (insideFrame_not_push h) hline
    simp [List.replicate, runTurns, receiveBytes, hturn]
  | cons b p ih =>
    have hturn := perform_rxf_eq_receiveByte h.1 (insideFrame_not_push h) hline
    rw [List.length_cons, List.replicate_succ, runTurns, hturn]
    refine andThen_congr fun t ht => ?_
    obtain ⟨hinside, htail⟩ := insideFrame_receiveByte h ht
    exact ih hinside (by simp [htail, hline])

theorem legalLen_iff {mtu : Nat} {b : Byte} :
    legalLen mtu b = true ↔ 2 ≤ b.toNat ∧ b.toNat ≤ mtu := by
  simp [legalLen]

theorem receiveByte_start {s : State} (hrun : running s = true) (hs : s.rxState = .hunt) :
    receiveByte startByte s = .next (huntStart s) := by
  simp [receiveByte, hrun, hs]

theorem receiveByte_legalLen {len : Byte} {s : State} (hrun : running s = true)
    (hs : s.rxState = .len) (hlegal : legalLen s.cfg.mtu len = true) :
    receiveByte len s = .next (lenData len s) := by
  have hne : len ≠ 0 := by rintro rfl; simp [legalLen_iff] at hlegal
  simp only [receiveByte, hrun, hs, hlegal, if_neg hne, if_true]

/-- The bytes of a DATA frame at line-in, received in order, are as many turns of RXF. -/
theorem receiveBytes_dataFrame_eq_runTurns {len c : Byte} {p rest : List Byte} {s : State}
    (hrun : running s = true) (hs : s.rxState = .hunt) (hlegal : legalLen s.cfg.mtu len = true)
    (hlen : p.length = len.toNat) (hline : s.lineIn = dataFrame len p c ++ rest) :
    receiveBytes (dataFrame len p c) s = runTurns (List.replicate (len.toNat + 3) .rxf) s := by
  have hline1 : (huntStart s).lineIn = len :: (p ++ c :: rest) := by
    simp [huntStart, hline, dataFrame]
  have hline2 : (lenData len (huntStart s)).lineIn = p ++ c :: rest := by
    simp [lenData, hline1]
  have hbyte1 := receiveByte_start hrun hs
  have hbyte2 := receiveByte_legalLen (s := huntStart s) hrun rfl hlegal
  have hturn1 : perform .rxf s = .next (huntStart s) := by
    rw [perform_rxf_eq_receiveByte hrun (by simp [hs]) hline, hbyte1]
  have hturn2 : perform .rxf (huntStart s) = .next (lenData len (huntStart s)) := by
    rw [perform_rxf_eq_receiveByte (s := huntStart s) hrun (by simp [huntStart]) hline1, hbyte2]
  have hpos : 0 < len.toNat := Nat.zero_lt_of_lt (legalLen_iff.1 hlegal).1
  have hinside : insideFrame p.length (lenData len (huntStart s)) :=
    hlen ▸ insideFrame_lenData hrun hpos
  rw [← hlen]
  simp only [dataFrame, receiveBytes_cons, hbyte1, hbyte2, andThen_next,
    List.replicate_succ (n := p.length + 2), List.replicate_succ (n := p.length + 1), runTurns,
    hturn1, hturn2]
  exact receiveBytes_eq_runTurns hinside hline2

end Sys2Proof.Machine

open Sys2Proof Sys2Proof.Machine

/-- Settles O25: the byte steps and RXF's turns agree along the frame, and the push is RXF's turn in R_PUSH. -/
theorem aWholeFrameIsTheRunOfItsByteSteps : Obligations.AWholeFrameIsTheRunOfItsByteSteps := by
  intro s len c p henabled
  have hexec := exec_of_enabled henabled
  simp only [enabled, Bool.and_eq_true, beq_iff_eq] at henabled
  obtain ⟨⟨hframe, hlegal⟩, hlen⟩ := henabled
  obtain ⟨hrun, hs, rest, hline⟩ := awaitFrame_iff.1 hframe
  rw [hexec, meaning, ← receiveBytes_dataFrame_eq_runTurns hrun hs hlegal hlen hline]
  refine andThen_congr fun t ht => pushHeld_eq_perform_rxf ?_
  rw [receiveBytes_rst ht, (running_iff.1 hrun).1]

/-- Settles O14: every instruction is its meaning under its `await`. -/
theorem aWaitingInstructionChangesNothing : Obligations.AWaitingInstructionChangesNothing :=
  fun _ _ hwaits => exec_of_waiting hwaits

/-- Settles O9: a turn with no input change runs what its word decodes to. -/
theorem aStepRunsTheDecodedInstruction : Obligations.AStepRunsTheDecodedInstruction := by
  intro s code i henv hcode hdecode
  exact ⟨(step_eq s).trans (perform_of_decode henv hcode hdecode), rfl⟩

/-- Settles O10: an environment turn is the input change `environmentTurn` gives. -/
theorem environmentTurnsChangeOneInput : Obligations.EnvironmentTurnsChangeOneInput := by
  intro s bytes level t p
  refine ⟨?_, ?_, ?_, ?_, ?_, ?_, ?_, ?_⟩ <;> exact perform_of_environmentTurn rfl

end

section
/-! PROOFS. The family 10_state: every instruction goes on from a state that meets the invariant, to a state
that meets it (R20-R35, R149); what a step may do to the configuration and to `err_sticky` (R35, R36); the
outputs during reset (R39). -/

namespace Sys2Proof.Machine

/-- The machine goes on, to a state that meets the invariant. -/
def endsInInv (r : Result) : Prop := ∃ t, r = .next t ∧ EndInv t

theorem endsInInv_next {s : State} (h : EndInv s) : endsInInv (.next s) := ⟨s, rfl, h⟩

theorem endsInInv_andThen {r : Result} {k : State → Result} (hr : endsInInv r)
    (hk : ∀ t, EndInv t → endsInInv (k t)) : endsInInv (andThen r k) := by
  obtain ⟨t, rfl, ht⟩ := hr
  exact hk t ht

theorem endInv_of_endsInInv {r : Result} {t : State} (hr : endsInInv r) (h : r = .next t) :
    EndInv t := by
  obtain ⟨u, rfl, hu⟩ := hr
  cases h
  exact hu

theorem goesOn_of_endsInInv {r : Result} (hr : endsInInv r) : goesOn r := by
  obtain ⟨t, rfl, -⟩ := hr
  exact ⟨t, rfl⟩

/-! ## The invariant by parts -/

/-- What the invariant says of the fault record while `fault = 0` (R34, R35, R204). -/
def recordClear (s : State) : Prop :=
  s.faultCause = .none ∧ s.faultLen = 0 ∧ s.faultByte = 0 ∧ s.faultCalc = 0 ∧
    (s.cfg.errPolicy = .fatal → s.errSticky = 0)

theorem faultOk_iff_recordClear {s : State} (hfault : s.fault = false) :
    faultOk s ↔ recordClear s := by
  simp [faultOk, recordClear, hfault]

theorem endInv_iff_of_unfaulted {s : State} (hfault : s.fault = false) :
    EndInv s ↔ buffersOk s ∧ queuesOk s ∧ receiverOk s ∧ senderOk s ∧ recordClear s := by
  rw [EndInv, faultOk_iff_recordClear hfault]

theorem endInv_of_recordClear {s : State} (hbuf : buffersOk s) (hqueue : queuesOk s)
    (hrecv : receiverOk s) (hsend : senderOk s) (hclear : recordClear s) (hfault : s.fault = false) :
    EndInv s :=
  (endInv_iff_of_unfaulted hfault).2 ⟨hbuf, hqueue, hrecv, hsend, hclear⟩

/-- RXF has received a whole payload, and `rx_acc` is its frame's checksum (R149). -/
def payloadComplete (s : State) : Prop :=
  legalLen s.cfg.mtu s.rxLen = true ∧ s.rxCnt = s.rxLen ∧
    s.rxAcc = cksumFrame s.rxLen (s.rxBuf.take s.rxLen.toNat)

theorem receiverOk_len {s : State} (h : s.rxState = .len) :
    receiverOk s ↔ s.rxAcc = startByte := by
  simp [receiverOk, h]

theorem receiverOk_payload {s : State} (h : s.rxState = .payload) :
    receiverOk s ↔ legalLen s.cfg.mtu s.rxLen = true ∧ s.rxCnt.toNat < s.rxLen.toNat ∧
      s.rxAcc = cksum (startByte :: s.rxLen :: s.rxBuf.take s.rxCnt.toNat) := by
  simp [receiverOk, h]

theorem receiverOk_cksum {s : State} (h : s.rxState = .cksum) :
    receiverOk s ↔ payloadComplete s := by
  simp [receiverOk, payloadComplete, h]

theorem receiverOk_push {s : State} (h : s.rxState = .push) :
    receiverOk s ↔ payloadComplete s := by
  simp [receiverOk, payloadComplete, h]

/-- `tx_buf` holds the encoded frame of a packet, of length `tx_flen` (R30). -/
def carriesFrame (s : State) : Prop :=
  ∃ k, Packet.fits s.cfg.mtu k = true ∧ heldFrame s = encodePacket k ∧
    s.txFlen.toNat = (encodePacket k).length

/-- `senderOk` by TXF's state (R28-R30). -/
def senderRow (s : State) : Prop :=
  match s.txState with
  | .ctrl => (s.txIdx = 0 ∨ s.txIdx = 1) ∧ s.txTimer = 0 ∧
      (s.txRet = .gate ∨ s.txRet = .xmit → carriesFrame s)
  | .suWait => s.txIdx = 0 ∧ s.txTimer ≤ s.cfg.startupInterval
  | .check => s.txIdx = 0 ∧ s.txTimer = 0
  | .wait1 => s.txIdx = 0 ∧ s.txTimer = 0
  | .gate => s.txIdx = 0 ∧ s.txTimer = 0 ∧ carriesFrame s
  | .xmit => s.txIdx.toNat < s.txFlen.toNat ∧ s.txTimer = 0 ∧ carriesFrame s

theorem senderOk_iff_senderRow {s : State} : senderOk s ↔ senderRow s := by
  have hzero : s.txTimer = 0 → s.txTimer ≤ s.cfg.startupInterval := fun h => h ▸ Nat.zero_le _
  cases hst : s.txState <;>
    simp only [senderOk, senderRow, hst, holdsFrame, carriesFrame] <;> simp <;> tauto

theorem carriesFrame_txFlen_pos {s : State} (h : carriesFrame s) : 0 < s.txFlen.toNat := by
  obtain ⟨k, -, -, hlen⟩ := h
  simp [hlen]

theorem carriesFrame_txFlen_le {s : State} (h : carriesFrame s) :
    s.txFlen.toNat ≤ s.txBuf.length := by
  obtain ⟨k, -, hheld, hlen⟩ := h
  have hlength : (heldFrame s).length = s.txFlen.toNat := by rw [hheld, hlen]
  rw [heldFrame, List.length_take] at hlength
  omega

/-! ## The receiver's operations -/

theorem huntStart_endInv {s : State} (h : EndInv s) (hfault : s.fault = false) :
    EndInv (huntStart s) := by
  obtain ⟨hbuf, hqueue, -, hsend, hclear⟩ := (endInv_iff_of_unfaulted hfault).1 h
  exact endInv_of_recordClear hbuf hqueue rfl hsend hclear hfault

theorem huntSkip_endInv {s : State} (h : EndInv s) : EndInv (huntSkip s) := h

theorem lenCtrl_endInv {s : State} (h : EndInv s) (hfault : s.fault = false) :
    EndInv (lenCtrl s) := by
  obtain ⟨hbuf, hqueue, -, hsend, hclear⟩ := (endInv_iff_of_unfaulted hfault).1 h
  exact endInv_of_recordClear hbuf hqueue trivial hsend hclear hfault

theorem lenData_endInv {s : State} {b : Byte} (h : EndInv s) (hfault : s.fault = false)
    (hst : s.rxState = .len) (hlegal : legalLen s.cfg.mtu b = true) : EndInv (lenData b s) := by
  obtain ⟨hbuf, hqueue, hrecv, hsend, hclear⟩ := (endInv_iff_of_unfaulted hfault).1 h
  have hacc : s.rxAcc = startByte := (receiverOk_len hst).1 hrecv
  have hrecv' : receiverOk (lenData b s) := by
    refine (receiverOk_payload rfl).2 ⟨hlegal, ?_, by simp [lenData, hacc]⟩
    exact Nat.zero_lt_of_lt (legalLen_iff.1 hlegal).1
  exact endInv_of_recordClear hbuf hqueue hrecv' hsend hclear hfault

theorem lenBad_endInv {s : State} {b : Byte} (h : EndInv s) (hfault : s.fault = false)
    (hst : s.rxState = .len) (hne : b ≠ 0) (hillegal : legalLen s.cfg.mtu b = false) :
    EndInv (lenBad b s) := by
  obtain ⟨hbuf, hqueue, hrecv, hsend, hclear⟩ := (endInv_iff_of_unfaulted hfault).1 h
  obtain ⟨hcause, hlen, hbyte, hcalc, hsticky⟩ := hclear
  unfold lenBad
  split
  case h_1 hpol =>
    refine ⟨hbuf, hqueue, hrecv, hsend, by simp, fun _ => ⟨hpol, .inr ?_⟩⟩
    exact ⟨rfl, by simp [hsticky hpol], hst, rfl, rfl, hne, hillegal⟩
  case h_2 hpol =>
    exact endInv_of_recordClear hbuf hqueue trivial hsend
      ⟨hcause, hlen, hbyte, hcalc, by simp [hpol]⟩ hfault

/-- The count stays below the length, which is within the buffer (R149, R25). -/
theorem rxCnt_lt_rxBuf {s : State} (h : EndInv s) (hst : s.rxState = .payload) :
    s.rxCnt.toNat < s.rxBuf.length := by
  obtain ⟨⟨hlen, -⟩, -, hrecv, -⟩ := h
  obtain ⟨hlegal, hlt, -⟩ := (receiverOk_payload hst).1 hrecv
  rw [hlen]
  exact Nat.lt_of_lt_of_le hlt (legalLen_iff.1 hlegal).2

theorem take_set_succ {l : List Byte} {n : Nat} (b : Byte) (h : n < l.length) :
    (l.set n b).take (n + 1) = l.take n ++ [b] := by
  rw [List.take_add_one, List.take_set_of_le (Nat.le_refl n)]
  simp [h]

/-- The accumulator runs along with the stored bytes (R145, R149). -/
theorem cksum_take_set_succ {l : List Byte} {n : Nat} {len acc : Byte} (b : Byte) (h : n < l.length)
    (hacc : acc = cksum (startByte :: len :: l.take n)) :
    acc ^^^ b = cksum (startByte :: len :: (l.set n b).take (n + 1)) := by
  rw [hacc, take_set_succ b h]
  simp [cksum_append, BitVec.xor_assoc]

theorem payloadByte_endsInInv {s : State} {b : Byte} (h : EndInv s) (hfault : s.fault = false)
    (hst : s.rxState = .payload) : endsInInv (payloadByte b s) := by
  have hroom := rxCnt_lt_rxBuf h hst
  obtain ⟨⟨hrbuf, htbuf⟩, hqueue, hrecv, hsend, hclear⟩ := (endInv_iff_of_unfaulted hfault).1 h
  obtain ⟨hlegal, hlt, hacc⟩ := (receiverOk_payload hst).1 hrecv
  have hcnt : (s.rxCnt + 1).toNat = s.rxCnt.toNat + 1 := by
    have hbound := s.rxLen.isLt
    rw [BitVec.toNat_add_of_lt] <;> simp; omega
  have hacc' := cksum_take_set_succ b hroom hacc
  rw [← hcnt] at hacc'
  rw [payloadByte, if_pos hroom]
  refine endsInInv_next (endInv_of_recordClear ⟨by simpa using hrbuf, htbuf⟩ hqueue ?_ hsend
    hclear hfault)
  by_cases hlast : s.rxCnt + 1 = s.rxLen
  · rw [hlast] at hacc'
    exact (receiverOk_cksum (if_pos hlast)).2 ⟨hlegal, hlast, hacc'⟩
  · have hne : (s.rxCnt + 1).toNat ≠ s.rxLen.toNat := mt BitVec.eq_of_toNat_eq hlast
    have hmore : (s.rxCnt + 1).toNat < s.rxLen.toNat := by omega
    exact (receiverOk_payload (if_neg hlast)).2 ⟨hlegal, hmore, hacc'⟩

theorem cksumOk_endInv {s : State} (h : EndInv s) (hfault : s.fault = false)
    (hst : s.rxState = .cksum) : EndInv (cksumOk s) := by
  obtain ⟨hbuf, hqueue, hrecv, hsend, hclear⟩ := (endInv_iff_of_unfaulted hfault).1 h
  have hcomplete : payloadComplete s := (receiverOk_cksum hst).1 hrecv
  exact endInv_of_recordClear hbuf hqueue hcomplete hsend hclear hfault

theorem cksumBad_endInv {s : State} {b : Byte} (h : EndInv s) (hfault : s.fault = false)
    (hst : s.rxState = .cksum) (hne : b ≠ s.rxAcc) : EndInv (cksumBad b s) := by
  obtain ⟨hbuf, hqueue, hrecv, hsend, hclear⟩ := (endInv_iff_of_unfaulted hfault).1 h
  obtain ⟨hcause, hlen, hbyte, hcalc, hsticky⟩ := hclear
  unfold cksumBad
  split
  case h_1 hpol =>
    refine ⟨hbuf, hqueue, hrecv, hsend, by simp, fun _ => ⟨hpol, .inl ?_⟩⟩
    exact ⟨rfl, by simp [hsticky hpol], hst, rfl, rfl, hne⟩
  case h_2 hpol =>
    exact endInv_of_recordClear hbuf hqueue trivial hsend
      ⟨hcause, hlen, hbyte, hcalc, by simp [hpol]⟩ hfault

theorem full_eq_false_iff {α : Type} {depth : Nat} {q : List α} :
    full depth q = false ↔ q.length < depth := by
  simp [full]

theorem pushFrame_endsInInv {s : State} (h : EndInv s) (hfault : s.fault = false)
    (hst : s.rxState = .push) (hroom : full s.cfg.rxqDepth s.rxq = false) :
    endsInInv (pushFrame s) := by
  obtain ⟨⟨hrbuf, htbuf⟩, hqueue, hrecv, hsend, hclear⟩ := (endInv_iff_of_unfaulted hfault).1 h
  obtain ⟨htxq, htxfits, -, hrxfits⟩ := hqueue
  obtain ⟨hlegal, -, -⟩ := (receiverOk_push hst).1 hrecv
  have hle : s.rxLen.toNat ≤ s.rxBuf.length := hrbuf ▸ (legalLen_iff.1 hlegal).2
  have hfits : FrameRec.fits s.cfg.mtu
      { len := s.rxLen, payload := s.rxBuf.take s.rxLen.toNat } = true := by
    simp [FrameRec.fits, hlegal, hle]
  rw [pushFrame, if_pos hle]
  refine endsInInv_next (endInv_of_recordClear ⟨hrbuf, htbuf⟩ ⟨htxq, htxfits, ?_, ?_⟩ trivial
    hsend hclear hfault)
  · simpa using full_eq_false_iff.1 hroom
  · intro f hf
    obtain hf | rfl := by simpa using hf
    · exact hrxfits f hf
    · exact hfits

/-- One byte step of RXF, whatever byte is offered (R86). -/
theorem receiveByte_endsInInv {s : State} (b : Byte) (h : EndInv s) :
    endsInInv (receiveByte b s) := by
  unfold receiveByte
  split
  case isFalse => exact endsInInv_next h
  case isTrue hrun =>
    have hfault := (running_iff.1 hrun).2
    split
    case h_1 hst =>
      split
      · exact endsInInv_next (huntStart_endInv h hfault)
      · exact endsInInv_next (huntSkip_endInv h)
    case h_2 hst =>
      split
      · exact endsInInv_next (lenCtrl_endInv h hfault)
      next hne =>
        split
        next hlegal => exact endsInInv_next (lenData_endInv h hfault hst hlegal)
        next hillegal =>
          exact endsInInv_next (lenBad_endInv h hfault hst hne (Bool.not_eq_true _ ▸ hillegal))
    case h_3 hst => exact payloadByte_endsInInv h hfault hst
    case h_4 hst =>
      split
      · exact endsInInv_next (cksumOk_endInv h hfault hst)
      next hne => exact endsInInv_next (cksumBad_endInv h hfault hst hne)
    case h_5 => exact endsInInv_next h

theorem receiveBytes_endsInInv {s : State} (bs : List Byte) (h : EndInv s) :
    endsInInv (receiveBytes bs s) := by
  induction bs generalizing s with
  | nil => exact endsInInv_next h
  | cons b bs ih => exact endsInInv_andThen (receiveByte_endsInInv b h) fun _ ht => ih ht

theorem pushHeld_endsInInv {s : State} (h : EndInv s) : endsInInv (pushHeld s) := by
  unfold pushHeld
  split
  next hpush =>
    simp only [Bool.and_eq_true, beq_iff_eq, Bool.not_eq_true'] at hpush
    obtain ⟨⟨hrun, hst⟩, hroom⟩ := hpush
    exact pushFrame_endsInInv h (running_iff.1 hrun).2 hst hroom
  · exact endsInInv_next h

/-! ## The sender's operations -/

theorem senderRow_of_endInv {s : State} (h : EndInv s) : senderRow s := by
  obtain ⟨-, -, -, hsend, -⟩ := h
  exact senderOk_iff_senderRow.1 hsend

/-- TXF goes to emit a CTRL frame: `tx_idx` starts at 0, and a held frame stays (R163, R166, R167). -/
theorem senderRow_sendCtrl {ret : TxRet} {s : State} (htimer : s.txTimer = 0)
    (hframe : ret = .gate ∨ ret = .xmit → carriesFrame s) : senderRow (sendCtrl ret s) :=
  ⟨.inl rfl, htimer, hframe⟩

/-- TXF enters the state a `tx_ret` names with `tx_idx = 0` (R161, R167). -/
theorem senderRow_of_retState {ret : TxRet} {s : State} (hst : s.txState = retState ret)
    (hidx : s.txIdx = 0)
    (htimer : s.txTimer = if ret = .suWait then s.cfg.startupInterval else 0)
    (hframe : ret = .gate ∨ ret = .xmit → carriesFrame s) : senderRow s := by
  cases ret <;> simp only [retState] at hst <;> simp only [senderRow, hst]
  case suWait => exact ⟨hidx, by simp [htimer]⟩
  case check => exact ⟨hidx, by simpa using htimer⟩
  case gate => exact ⟨hidx, by simpa using htimer, hframe (.inl rfl)⟩
  case xmit =>
    have hcarries := hframe (.inr rfl)
    exact ⟨by simpa [hidx] using carriesFrame_txFlen_pos hcarries, by simpa using htimer, hcarries⟩

theorem ctrlEmit_endInv {s : State} (h : EndInv s) (hst : s.txState = .ctrl) :
    EndInv (ctrlEmit s) := by
  have hrow := senderRow_of_endInv h
  simp only [senderRow, hst] at hrow
  obtain ⟨-, htimer, hframe⟩ := hrow
  obtain ⟨hbuf, hqueue, hrecv, -, hfault⟩ := h
  unfold ctrlEmit
  split
  · refine ⟨hbuf, hqueue, hrecv, senderOk_iff_senderRow.2 ?_, hfault⟩
    simpa [senderRow, hst] using ⟨htimer, hframe⟩
  · refine ⟨hbuf, hqueue, hrecv, senderOk_iff_senderRow.2 ?_, hfault⟩
    exact senderRow_of_retState (ret := s.txRet) rfl rfl (by simp [htimer]) hframe

theorem suTick_endInv {s : State} (h : EndInv s) (hst : s.txState = .suWait) :
    EndInv (suTick s) := by
  have hrow := senderRow_of_endInv h
  simp only [senderRow, hst] at hrow
  obtain ⟨hidx, htimer⟩ := hrow
  obtain ⟨hbuf, hqueue, hrecv, -, hfault⟩ := h
  refine ⟨hbuf, hqueue, hrecv, senderOk_iff_senderRow.2 ?_, hfault⟩
  simp only [senderRow, suTick, hst]
  exact ⟨hidx, Nat.le_trans (Nat.sub_le _ _) htimer⟩

theorem suSample_endInv {s : State} (h : EndInv s) (hst : s.txState = .suWait)
    (htimer : s.txTimer = 0) : EndInv (suSample s) := by
  have hrow := senderRow_of_endInv h
  simp only [senderRow, hst] at hrow
  obtain ⟨hidx, -⟩ := hrow
  obtain ⟨hbuf, hqueue, hrecv, -, hfault⟩ := h
  unfold suSample
  split
  · exact ⟨hbuf, hqueue, hrecv, senderOk_iff_senderRow.2 ⟨hidx, htimer⟩, hfault⟩
  · exact ⟨hbuf, hqueue, hrecv,
      senderOk_iff_senderRow.2 (senderRow_sendCtrl htimer (by simp)), hfault⟩

theorem checkEmpty_endInv {s : State} (h : EndInv s) (hst : s.txState = .check) :
    EndInv (checkEmpty s) := by
  have hrow := senderRow_of_endInv h
  simp only [senderRow, hst] at hrow
  obtain ⟨hbuf, hqueue, hrecv, -, hfault⟩ := h
  exact ⟨hbuf, hqueue, hrecv, senderOk_iff_senderRow.2 hrow, hfault⟩

theorem packetFits_iff {mtu : Nat} {k : Packet} :
    Packet.fits mtu k = true ↔ k.data.length = k.dlen.toNat ∧ k.dlen.toNat ≤ mtu - 2 := by
  simp [Packet.fits]

/-- The frame of a packet that fits fills at most `MTU + 3` bytes (R104, R30). -/
theorem encodePacket_length_le {p : Params} {k : Packet} (hfits : Packet.fits p.mtu k = true) :
    (encodePacket k).length ≤ p.mtu + 3 := by
  obtain ⟨hlen, hle⟩ := packetFits_iff.1 hfits
  have hmtu : 2 ≤ p.mtu := p.mtu_ge
  rw [encodePacket_length]
  omega

theorem checkDeq_endsInInv {s : State} (h : EndInv s) (hst : s.txState = .check) :
    endsInInv (checkDeq s) := by
  have hrow := senderRow_of_endInv h
  simp only [senderRow, hst] at hrow
  obtain ⟨hidx, htimer⟩ := hrow
  obtain ⟨⟨hrbuf, htbuf⟩, ⟨htxq, htxfits, hrxq, hrxfits⟩, hrecv, -, hfault⟩ := id h
  unfold checkDeq
  split
  case h_1 => exact endsInInv_next h
  case h_2 k rest hq =>
    rw [hq] at htxq htxfits
    obtain ⟨hfits, hrest⟩ := List.forall_mem_cons.1 htxfits
    have hlen := encodePacket_length_le hfits
    have hmtu := s.cfg.mtu_le
    rw [if_pos hfits, if_pos (htbuf ▸ hlen)]
    refine endsInInv_next ⟨⟨hrbuf, ?_⟩, ⟨Nat.le_of_succ_le htxq, hrest, hrxq, hrxfits⟩, hrecv,
      senderOk_iff_senderRow.2 ⟨rfl, htimer, k, hfits, ?_⟩, hfault⟩
    · simp only [List.length_append, List.length_drop]
      omega
    · have hflen : (BitVec.ofNat 9 (encodePacket k).length).toNat = (encodePacket k).length :=
        Nat.mod_eq_of_lt (by omega)
      exact ⟨by simp only [heldFrame, hflen, List.take_left], hflen⟩

theorem wait1Observe_endInv {s : State} (h : EndInv s) (hst : s.txState = .wait1) :
    EndInv (wait1Observe s) := by
  have hrow := senderRow_of_endInv h
  simp only [senderRow, hst] at hrow
  obtain ⟨hbuf, hqueue, hrecv, -, hfault⟩ := h
  unfold wait1Observe
  split
  · exact ⟨hbuf, hqueue, hrecv,
      senderOk_iff_senderRow.2 (senderRow_sendCtrl hrow.2 (by simp)), hfault⟩
  · exact ⟨hbuf, hqueue, hrecv, senderOk_iff_senderRow.2 hrow, hfault⟩

theorem gateNext_ne_suWait (obs : BitVec 3) : gateNext obs ≠ .suWait := by
  unfold gateNext
  split <;> simp

theorem gateObserve_endInv {s : State} (h : EndInv s) (hst : s.txState = .gate) :
    EndInv (gateObserve s) := by
  have hrow := senderRow_of_endInv h
  simp only [senderRow, hst] at hrow
  obtain ⟨hidx, htimer, hcarries⟩ := hrow
  obtain ⟨hbuf, hqueue, hrecv, -, hfault⟩ := h
  unfold gateObserve
  split
  · exact ⟨hbuf, hqueue, hrecv,
      senderOk_iff_senderRow.2 (senderRow_sendCtrl htimer fun _ => hcarries), hfault⟩
  · refine ⟨hbuf, hqueue, hrecv, senderOk_iff_senderRow.2 ?_, hfault⟩
    exact senderRow_of_retState rfl hidx (by simp [gateNext_ne_suWait, htimer]) fun _ => hcarries

theorem xmitByte_endsInInv {s : State} (h : EndInv s) (hst : s.txState = .xmit) :
    endsInInv (xmitByte s) := by
  have hrow := senderRow_of_endInv h
  simp only [senderRow, hst] at hrow
  obtain ⟨hidx, htimer, hcarries⟩ := hrow
  obtain ⟨hbuf, hqueue, hrecv, -, hfault⟩ := h
  have hin : s.txIdx.toNat < s.txBuf.length :=
    Nat.lt_of_lt_of_le hidx (carriesFrame_txFlen_le hcarries)
  rw [xmitByte, List.getElem?_eq_getElem hin]
  refine endsInInv_next ?_
  split
  · exact ⟨hbuf, hqueue, hrecv, senderOk_iff_senderRow.2 ⟨rfl, htimer⟩, hfault⟩
  next hmore =>
    refine ⟨hbuf, hqueue, hrecv, senderOk_iff_senderRow.2 ?_, hfault⟩
    simp only [senderRow, emit_txState, hst]
    refine ⟨?_, htimer, hcarries⟩
    show (s.txIdx + 1).toNat < s.txFlen.toNat
    bv_omega

/-! ## The host's operations and reset -/

theorem sendCheck_accepted {mtu : Nat} {t : TxReq} (h : sendCheck mtu t = .accepted) :
    t.dlen.toNat ≤ mtu - 2 := by
  unfold sendCheck at h
  split at h
  · cases h
  next hle => exact Nat.le_of_not_lt hle

theorem acceptPacket_endInv {s : State} {t : TxReq} (h : EndInv s)
    (hcheck : sendCheck s.cfg.mtu t = .accepted) (hroom : full s.cfg.txqDepth s.txq = false) :
    EndInv (acceptPacket t s) := by
  obtain ⟨hbuf, ⟨-, htxfits, hrxq, hrxfits⟩, hrecv, hsend, hfault⟩ := h
  have hfits : Packet.fits s.cfg.mtu (storedPacket t s) = true :=
    packetFits_iff.2 ⟨storedPacket_data_length t s, sendCheck_accepted hcheck⟩
  refine ⟨hbuf, ⟨?_, ?_, hrxq, hrxfits⟩, hrecv, hsend, hfault⟩
  · simpa [acceptPacket] using full_eq_false_iff.1 hroom
  · intro k hk
    obtain hk | rfl := by simpa [acceptPacket] using hk
    · exact htxfits k hk
    · exact hfits

theorem rejectPacket_endInv {s : State} {t : TxReq} (h : EndInv s) : EndInv (rejectPacket t s) := h

/-- DECODE answers on every record of R33 (R106). -/
theorem decodeRecord_of_fits {mtu : Nat} {f : FrameRec} (h : FrameRec.fits mtu f = true) :
    ∃ k, decodeRecord mtu f = some k := by
  have hlen : 2 ≤ f.payload.length := by
    simp only [FrameRec.fits, Bool.and_eq_true, beq_iff_eq] at h
    obtain ⟨hlegal, hlength⟩ := h
    exact hlength ▸ (legalLen_iff.1 hlegal).1
  rw [decodeRecord, if_pos h]
  match f.payload, hlen with
  | h0 :: h1 :: data, _ => exact ⟨_, rfl⟩

theorem deliverHead_endsInInv {s : State} (h : EndInv s) : endsInInv (deliverHead s) := by
  obtain ⟨hbuf, ⟨htxq, htxfits, hrxq, hrxfits⟩, hrecv, hsend, hfault⟩ := id h
  unfold deliverHead
  split
  case h_1 => exact endsInInv_next h
  case h_2 f rest hq =>
    rw [hq] at hrxq hrxfits
    obtain ⟨hfits, hrest⟩ := List.forall_mem_cons.1 hrxfits
    obtain ⟨k, hk⟩ := decodeRecord_of_fits hfits
    rw [hk]
    exact endsInInv_next
      ⟨hbuf, ⟨htxq, htxfits, Nat.le_of_succ_le hrxq, hrest⟩, hrecv, hsend, hfault⟩

theorem deliverIf_endsInInv {s : State} (rxFire : Bool) (h : EndInv s) :
    endsInInv (deliverIf rxFire s) := by
  cases rxFire
  · exact endsInInv_next h
  · exact deliverHead_endsInInv h

/-- Reset establishes the invariant from any state (R220). -/
theorem initState_endInv (s : State) : EndInv (initState s) := by
  refine ⟨⟨by simp, by simp⟩, ⟨by simp, by simp, by simp, by simp⟩, trivial, ?_, ?_⟩
  · exact senderOk_iff_senderRow.2 ⟨.inl rfl, rfl, by simp⟩
  · exact (faultOk_iff_recordClear (s := initState s) rfl).2 ⟨rfl, rfl, rfl, rfl, fun _ => rfl⟩

/-! ## Every instruction and every step -/

/-- Under its `await`, every instruction goes on from a state that meets the invariant, and keeps it. -/
theorem meaning_endsInInv {i : Instr} {s : State} (h : EndInv s) (henabled : enabled i s = true) :
    endsInInv (meaning i s) := by
  cases i <;>
    simp only [enabled, Bool.and_eq_true, beq_iff_eq, bne_iff_ne, Bool.not_eq_true',
      awaitByte_iff, awaitTx_iff, awaitPresented, running_iff] at henabled
  case ctrl => exact receiveBytes_endsInInv _ h
  case data =>
    exact endsInInv_andThen (receiveBytes_endsInInv _ h) fun _ ht => pushHeld_endsInInv ht
  case badlenShort => exact receiveBytes_endsInInv _ h
  case badlenLong => exact receiveBytes_endsInInv _ h
  case rxHuntStart =>
    obtain ⟨⟨-, hfault⟩, -⟩ := henabled
    exact endsInInv_next (huntStart_endInv h hfault)
  case rxHuntSkip => exact endsInInv_next (huntSkip_endInv h)
  case rxLenCtrl =>
    obtain ⟨⟨-, hfault⟩, -⟩ := henabled
    exact endsInInv_next (lenCtrl_endInv h hfault)
  case rxLenData =>
    obtain ⟨⟨⟨-, hfault⟩, hst, -⟩, hlegal⟩ := henabled
    exact endsInInv_next (lenData_endInv h hfault hst hlegal)
  case rxLenBad =>
    obtain ⟨⟨⟨⟨-, hfault⟩, hst, -⟩, hne⟩, hillegal⟩ := henabled
    exact endsInInv_next (lenBad_endInv h hfault hst hne hillegal)
  case rxPayload =>
    obtain ⟨⟨-, hfault⟩, hst, -⟩ := henabled
    exact payloadByte_endsInInv h hfault hst
  case rxCksumOk =>
    obtain ⟨⟨⟨-, hfault⟩, hst, -⟩, -⟩ := henabled
    exact endsInInv_next (cksumOk_endInv h hfault hst)
  case rxCksumBad =>
    obtain ⟨⟨⟨-, hfault⟩, hst, -⟩, hne⟩ := henabled
    exact endsInInv_next (cksumBad_endInv h hfault hst hne)
  case rxPush =>
    obtain ⟨⟨⟨-, hfault⟩, hst⟩, hroom⟩ := henabled
    exact pushFrame_endsInInv h hfault hst hroom
  case txCtrl =>
    obtain ⟨⟨-, hst⟩, -⟩ := henabled
    exact endsInInv_next (ctrlEmit_endInv h hst)
  case txSuTick =>
    obtain ⟨⟨-, hst⟩, -⟩ := henabled
    exact endsInInv_next (suTick_endInv h hst)
  case txSuSample =>
    obtain ⟨⟨-, hst⟩, htimer⟩ := henabled
    exact endsInInv_next (suSample_endInv h hst htimer)
  case txCheckEmpty =>
    obtain ⟨⟨-, hst⟩, -⟩ := henabled
    exact endsInInv_next (checkEmpty_endInv h hst)
  case txCheckDeq =>
    obtain ⟨⟨-, hst⟩, -⟩ := henabled
    exact checkDeq_endsInInv h hst
  case txWait1 =>
    obtain ⟨⟨-, hst⟩, -⟩ := henabled
    exact endsInInv_next (wait1Observe_endInv h hst)
  case txGate =>
    obtain ⟨⟨-, hst⟩, -⟩ := henabled
    exact endsInInv_next (gateObserve_endInv h hst)
  case txXmit =>
    obtain ⟨⟨-, hst⟩, -⟩ := henabled
    exact xmitByte_endsInInv h hst
  case send =>
    obtain ⟨⟨⟨-, hcheck⟩, hroom⟩, -⟩ := henabled
    exact deliverIf_endsInInv _ (acceptPacket_endInv h hcheck hroom)
  case sendReject => exact deliverIf_endsInInv _ (rejectPacket_endInv h)
  case recv => exact deliverHead_endsInInv h
  case init => exact endsInInv_next (initState_endInv s)

theorem exec_endsInInv {s : State} (i : Instr) (h : EndInv s) : endsInInv (exec i s) := by
  cases henabled : enabled i s
  · rw [exec_of_waiting henabled]
    exact endsInInv_next h
  · rw [exec_of_enabled henabled]
    exact meaning_endsInInv h henabled

/-- The environment drives inputs, of which the invariant says nothing (R14). -/
theorem environmentTurn_endInv {t : Turn} {s s' : State} (ht : environmentTurn t s = some s')
    (h : EndInv s) : EndInv s' := by
  cases t <;> cases ht <;> exact h

/-- A turn is an input change, a wait, or an instruction (R14, R15). -/
theorem perform_cases (t : Turn) (s : State) :
    (∃ s', environmentTurn t s = some s' ∧ perform t s = .next s') ∨ perform t s = .next s ∨
      ∃ code i, fetchCode t s = some code ∧ decode (selectCtx s) code = .ok i ∧
        perform t s = exec i s := by
  cases henv : environmentTurn t s with
  | some s' => exact .inl ⟨s', rfl, perform_of_environmentTurn henv⟩
  | none =>
    refine .inr ?_
    cases hcode : fetchCode t s with
    | none => exact .inl (by simp [perform, henv, hcode])
    | some code =>
      cases hdecode : decode (selectCtx s) code with
      | error e => exact .inl (by simp [perform, henv, hcode, hdecode])
      | ok i => exact .inr ⟨code, i, rfl, hdecode, perform_of_decode henv hcode hdecode⟩

theorem perform_endsInInv {s : State} (t : Turn) (h : EndInv s) : endsInInv (perform t s) := by
  obtain ⟨s', henv, hturn⟩ | hturn | ⟨code, i, -, -, hturn⟩ := perform_cases t s <;> rw [hturn]
  · exact endsInInv_next (environmentTurn_endInv henv h)
  · exact endsInInv_next h
  · exact exec_endsInInv i h

/-- Using up the turn and counting the step touch nothing the invariant reads. -/
theorem afterFetch_endInv {s : State} (h : EndInv s) : EndInv (afterFetch s) := h

theorem step_endsInInv {s : State} (h : EndInv s) : endsInInv (step s) := by
  rw [step_eq]
  exact perform_endsInInv _ (afterFetch_endInv h)

/-! ## The configuration and `err_sticky` (R35, R36) -/

/-- What holds between two states with no reset between them: the configuration is the same, and every bit
of `err_sticky` that was set is set (R35, R36). -/
def noReset (s t : State) : Prop := t.cfg = s.cfg ∧ s.errSticky &&& t.errSticky = s.errSticky

theorem noReset_of_eq {s t : State} (hcfg : t.cfg = s.cfg) (hsticky : t.errSticky = s.errSticky) :
    noReset s t :=
  ⟨hcfg, by rw [hsticky, BitVec.and_self]⟩

theorem noReset_of_or {s t : State} {bits : BitVec 2} (hcfg : t.cfg = s.cfg)
    (hsticky : t.errSticky = s.errSticky ||| bits) : noReset s t := by
  refine ⟨hcfg, ?_⟩
  rw [hsticky]
  ext i
  simp_all

theorem noReset_refl (s : State) : noReset s s := noReset_of_eq rfl rfl

theorem noReset_trans {s t u : State} (hst : noReset s t) (htu : noReset t u) : noReset s u := by
  obtain ⟨hcfg, hsticky⟩ := hst
  obtain ⟨hcfg', hsticky'⟩ := htu
  refine ⟨hcfg'.trans hcfg, ?_⟩
  calc s.errSticky &&& u.errSticky = s.errSticky &&& (t.errSticky &&& u.errSticky) := by
        rw [← BitVec.and_assoc, hsticky]
    _ = s.errSticky := by rw [hsticky', hsticky]

theorem lenBad_noReset (b : Byte) (s : State) : noReset s (lenBad b s) := by
  unfold lenBad
  split <;> exact noReset_of_or rfl rfl

theorem cksumBad_noReset (b : Byte) (s : State) : noReset s (cksumBad b s) := by
  unfold cksumBad
  split <;> exact noReset_of_or rfl rfl

theorem payloadByte_noReset {b : Byte} {s t : State} (h : payloadByte b s = .next t) :
    noReset s t := by
  obtain ⟨-, rfl⟩ := payloadByte_next h
  exact noReset_of_eq rfl rfl

theorem pushFrame_noReset {s t : State} (h : pushFrame s = .next t) : noReset s t := by
  obtain ⟨-, rfl⟩ := pushFrame_next h
  exact noReset_of_eq rfl rfl

theorem receiveByte_noReset {b : Byte} {s t : State} (h : receiveByte b s = .next t) :
    noReset s t := by
  obtain ⟨-, rfl⟩ | ⟨-, hrow⟩ := receiveByte_next h
  · exact noReset_refl _
  obtain ⟨-, -, rfl⟩ | ⟨-, -, rfl⟩ | ⟨-, -, rfl⟩ | ⟨-, -, -, rfl⟩ | ⟨-, -, -, rfl⟩ | ⟨-, hstored⟩ |
    ⟨-, -, rfl⟩ | ⟨-, -, rfl⟩ | ⟨-, rfl⟩ := hrow
  · exact noReset_of_eq rfl rfl
  · exact noReset_of_eq rfl rfl
  · exact noReset_of_eq rfl rfl
  · exact noReset_of_eq rfl rfl
  · exact lenBad_noReset b s
  · exact payloadByte_noReset hstored
  · exact noReset_of_eq rfl rfl
  · exact cksumBad_noReset b s
  · exact noReset_refl _

theorem receiveBytes_noReset {bs : List Byte} {s t : State} (h : receiveBytes bs s = .next t) :
    noReset s t := by
  induction bs generalizing s with
  | nil => cases h; exact noReset_refl _
  | cons b bs ih =>
    obtain ⟨u, hu, ht⟩ := andThen_eq_next.1 h
    exact noReset_trans (receiveByte_noReset hu) (ih ht)

theorem pushHeld_noReset {s t : State} (h : pushHeld s = .next t) : noReset s t := by
  obtain ⟨-, -, -, hpush⟩ | rfl := pushHeld_next h
  · exact pushFrame_noReset hpush
  · exact noReset_refl _

theorem checkDeq_noReset {s t : State} (h : checkDeq s = .next t) : noReset s t := by
  obtain ⟨-, rfl⟩ | ⟨k, rest, -, -, -, rfl⟩ := checkDeq_next h <;> exact noReset_of_eq rfl rfl

theorem xmitByte_noReset {s t : State} (h : xmitByte s = .next t) : noReset s t := by
  obtain ⟨b, -, rfl⟩ := xmitByte_next h
  split <;> exact noReset_of_eq rfl rfl

theorem deliverHead_noReset {s t : State} (h : deliverHead s = .next t) : noReset s t := by
  obtain ⟨-, rfl⟩ | ⟨f, rest, k, -, -, rfl⟩ := deliverHead_next h <;> exact noReset_of_eq rfl rfl

theorem deliverIf_noReset {rxFire : Bool} {s t : State} (h : deliverIf rxFire s = .next t) :
    noReset s t := by
  obtain ⟨-, rfl⟩ | ⟨-, hdeliver⟩ := deliverIf_next h
  · exact noReset_refl _
  · exact deliverHead_noReset hdeliver

theorem ctrlEmit_noReset (s : State) : noReset s (ctrlEmit s) := by
  unfold ctrlEmit
  split <;> exact noReset_of_eq rfl rfl

theorem suSample_noReset (s : State) : noReset s (suSample s) := by
  unfold suSample
  split <;> exact noReset_of_eq rfl rfl

theorem wait1Observe_noReset (s : State) : noReset s (wait1Observe s) := by
  unfold wait1Observe
  split <;> exact noReset_of_eq rfl rfl

theorem gateObserve_noReset (s : State) : noReset s (gateObserve s) := by
  unfold gateObserve
  split <;> exact noReset_of_eq rfl rfl

/-- No instruction but INIT changes the configuration or clears a bit of `err_sticky`. -/
theorem meaning_noReset {i : Instr} {s t : State} (hi : i ≠ .init)
    (h : meaning i s = .next t) : noReset s t := by
  cases i <;> simp only [meaning] at h
  case ctrl => exact receiveBytes_noReset h
  case data =>
    obtain ⟨u, hu, ht⟩ := andThen_eq_next.1 h
    exact noReset_trans (receiveBytes_noReset hu) (pushHeld_noReset ht)
  case badlenShort => exact receiveBytes_noReset h
  case badlenLong => exact receiveBytes_noReset h
  case rxHuntStart => cases h; exact noReset_of_eq rfl rfl
  case rxHuntSkip => cases h; exact noReset_of_eq rfl rfl
  case rxLenCtrl => cases h; exact noReset_of_eq rfl rfl
  case rxLenData => cases h; exact noReset_of_eq rfl rfl
  case rxLenBad => cases h; exact lenBad_noReset _ s
  case rxPayload => exact payloadByte_noReset h
  case rxCksumOk => cases h; exact noReset_of_eq rfl rfl
  case rxCksumBad => cases h; exact cksumBad_noReset _ s
  case rxPush => exact pushFrame_noReset h
  case txCtrl => cases h; exact ctrlEmit_noReset s
  case txSuTick => cases h; exact noReset_of_eq rfl rfl
  case txSuSample => cases h; exact suSample_noReset s
  case txCheckEmpty => cases h; exact noReset_of_eq rfl rfl
  case txCheckDeq => exact checkDeq_noReset h
  case txWait1 => cases h; exact wait1Observe_noReset s
  case txGate => cases h; exact gateObserve_noReset s
  case txXmit => exact xmitByte_noReset h
  case send rxFire r =>
    exact noReset_trans (noReset_of_eq (t := acceptPacket r s) rfl rfl) (deliverIf_noReset h)
  case sendReject rxFire r =>
    exact noReset_trans (noReset_of_eq (t := rejectPacket r s) rfl rfl) (deliverIf_noReset h)
  case recv => exact deliverHead_noReset h
  case init => exact absurd rfl hi

/-- An instruction either is an executed reset, or leaves the configuration and the set bits of
`err_sticky` as they are. -/
theorem exec_reset_or_noReset {i : Instr} {s t : State} (h : exec i s = .next t) :
    (s.rst = true ∧ t = initState s) ∨ noReset s t := by
  rw [exec_eq_whenEnabled] at h
  obtain ⟨henabled, hmeaning⟩ | ⟨-, rfl⟩ := whenEnabled_eq_next.1 h
  · by_cases hi : i = .init
    · subst hi
      cases hmeaning
      exact .inl ⟨henabled, rfl⟩
    · exact .inr (meaning_noReset hi hmeaning)
  · exact .inr (noReset_refl _)

theorem environmentTurn_noReset {t : Turn} {s s' : State} (h : environmentTurn t s = some s') :
    noReset s s' := by
  cases t <;> cases h <;> exact noReset_of_eq rfl rfl

theorem perform_reset_or_noReset {t : Turn} {s s' : State} (h : perform t s = .next s') :
    (s.rst = true ∧ s' = initState s) ∨ noReset s s' := by
  obtain henv | ⟨-, rfl | ⟨code, i, -, -, hexec⟩⟩ := perform_next h
  · exact .inr (environmentTurn_noReset henv)
  · exact .inr (noReset_refl _)
  · exact exec_reset_or_noReset hexec

theorem step_reset_or_noReset {s t : State} (h : step s = .next t) :
    (s.rst = true ∧ t = initState (afterFetch s)) ∨ noReset s t :=
  perform_reset_or_noReset h

/-! ## Ports during reset -/

theorem running_of_rst {s : State} (h : s.rst = true) : running s = false := by
  simp [running, h]

end Sys2Proof.Machine

open Sys2Proof Sys2Proof.Machine

/-- Settles O4: a turn changes inputs only, waits, or runs an instruction, and each instruction keeps the
invariant under its `await`. -/
theorem everyStepKeepsTheInvariant : Obligations.EveryStepKeepsTheInvariant :=
  fun _ _ hinv hstep => endInv_of_endsInInv (step_endsInInv hinv) hstep

/-- Settles O5: the invariant keeps every index within its buffer and every record within its codec. -/
theorem noStepStopsUnderTheInvariant : Obligations.NoStepStopsUnderTheInvariant :=
  fun _ hinv => goesOn_of_endsInInv (step_endsInInv hinv)

/-- Settles O43: `err_sticky` is written by the receive errors, which set a bit, and by reset alone. -/
theorem stickyBitsAreNeverClearedButByReset : Obligations.StickyBitsAreNeverClearedButByReset := by
  intro s t hstep hrst
  obtain ⟨hreset, -⟩ | ⟨-, hsticky⟩ := step_reset_or_noReset hstep
  · simp [hrst] at hreset
  · exact hsticky

/-- Settles O44: only an executed reset writes the configuration, with the inputs it samples. -/
theorem theConfigurationChangesAtResetOnly : Obligations.TheConfigurationChangesAtResetOnly := by
  intro s t hstep
  obtain ⟨hrst, rfl⟩ | ⟨hcfg, -⟩ := step_reset_or_noReset hstep
  · exact .inr ⟨hrst, rfl⟩
  · exact .inl hcfg

/-- Settles O45: the handshakes need a running block, and the other outputs test `rst` themselves. -/
theorem outputsAreZeroDuringReset : Obligations.OutputsAreZeroDuringReset := by
  intro s hrst
  have hrun := running_of_rst hrst
  refine ⟨?_, ?_, ?_, ?_, ?_, ?_, ?_, ?_⟩
  · simp [linReady, hrun]
  · simp [loutValid, hrun]
  · simp [loutData, hrst]
  · simp [txReady, hrun]
  · simp [rxValid, hrun]
  · simp [startupDone, hrst]
  · simp [rxPkt, hrst]
  · simp [status, hrst]

end

section
/-! PROOFS. The family 20_memory: packets keep their order and arrive whole on an ideal line (R58, R210), and a
frame whose checksum byte is wrong is dropped (R55). A link turn is seen from each direction of the link: as
the turn of its sending end, which puts bytes on the line, and as the turn of its receiving end, which takes
them off. -/

namespace Sys2Proof.Machine

/-! ## A good frame has one token -/

/-- The record RXF makes of a packet's frame (R104, R148). -/
def frameRecord (k : Packet) : FrameRec := { len := frameLen k, payload := framePayload k }

theorem frameLen_toNat {p : Params} {k : Packet} (hfits : Packet.fits p.mtu k = true) :
    (frameLen k).toNat = k.dlen.toNat + 2 := by
  obtain ⟨-, hle⟩ := packetFits_iff.1 hfits
  have hmin := p.mtu_ge
  have hmax := p.mtu_le
  simp only [frameLen, hdrSize, BitVec.toNat_ofNat] at hmin ⊢
  omega

theorem legalLen_frameLen {p : Params} {k : Packet} (hfits : Packet.fits p.mtu k = true) :
    legalLen p.mtu (frameLen k) = true := by
  have hlen := frameLen_toNat hfits
  obtain ⟨-, hle⟩ := packetFits_iff.1 hfits
  have hmin : 2 ≤ p.mtu := p.mtu_ge
  exact legalLen_iff.2 (by omega)

theorem framePayload_length_eq_frameLen {p : Params} {k : Packet}
    (hfits : Packet.fits p.mtu k = true) : (framePayload k).length = (frameLen k).toNat := by
  rw [framePayload_length, frameLen_toNat hfits, (packetFits_iff.1 hfits).1]

/-- The payload bytes of a frame complete no token (R145). -/
theorem parse_payload {mtu : Nat} {len : Byte} {got p : List Byte} (hne : p ≠ [])
    (hlen : got.length + p.length = len.toNat) :
    parse mtu (.body len got) p = ([], .cksum len (got ++ p)) := by
  induction p generalizing got with
  | nil => exact absurd rfl hne
  | cons b p ih =>
    rw [List.length_cons] at hlen
    by_cases hp : p = []
    · subst hp
      simp [parse, phaseByte, show got.length + 1 = len.toNat from hlen]
    · have hmore : got.length + 1 ≠ len.toNat := by
        have := List.length_pos_of_ne_nil hp
        omega
      simp [parse, phaseByte, hmore, ih (got := got ++ [b]) hp (by simp; omega)]

theorem ne_zero_of_legalLen {mtu : Nat} {b : Byte} (h : legalLen mtu b = true) : b ≠ 0 := by
  rintro rfl
  simp [legalLen_iff] at h

theorem phaseByte_legalLen {mtu : Nat} {b : Byte} (h : legalLen mtu b = true) :
    phaseByte mtu .len b = (.body b [], none) := by
  rw [phaseByte, if_neg (ne_zero_of_legalLen h), if_pos h]

/-- A DATA frame with its own checksum is one token, and a parse ends after it between frames (R70, R105). -/
theorem parse_dataFrame {mtu : Nat} {len : Byte} {p : List Byte} (hlegal : legalLen mtu len = true)
    (hlen : p.length = len.toNat) :
    parse mtu .hunt (dataFrame len p (cksumFrame len p)) =
      ([.data { len := len, payload := p }], .hunt) := by
  have hmin := (legalLen_iff.1 hlegal).1
  have hstart : phaseByte mtu .hunt startByte = (.len, none) := rfl
  have hpayload : parse mtu (.body len []) p = ([], .cksum len p) :=
    parse_payload (List.ne_nil_of_length_pos (by omega)) (by simpa using hlen)
  have hcksum : phaseByte mtu (.cksum len p) (cksumFrame len p) =
      (.hunt, some (.data { len := len, payload := p })) := if_pos rfl
  simp only [dataFrame, parse, hstart, phaseByte_legalLen hlegal, parse_append, hpayload, hcksum,
    Option.toList_none, Option.toList_some, List.nil_append, List.append_nil]

theorem parse_encodePacket {p : Params} {k : Packet} (hfits : Packet.fits p.mtu k = true) :
    parse p.mtu .hunt (encodePacket k) = ([.data (frameRecord k)], .hunt) :=
  parse_dataFrame (legalLen_frameLen hfits) (framePayload_length_eq_frameLen hfits)

/-- UNPACK takes back what PACK packed (R103). -/
theorem unpack_pack (r : Route) : unpack (packByte0 r) r.func = r := by
  obtain ⟨dst, src, last, func⟩ := r
  have hbits : ∀ (d s : BitVec 3) (l : Bool), (packByte0 ⟨d, s, l, 0⟩).extractLsb' 0 3 = d ∧
      (packByte0 ⟨d, s, l, 0⟩).extractLsb' 3 3 = s ∧ (packByte0 ⟨d, s, l, 0⟩).getLsbD 6 = l := by
    decide
  obtain ⟨hdst, hsrc, hlast⟩ := hbits dst src last
  simp only [unpack, Route.mk.injEq]
  exact ⟨hdst, hsrc, hlast, trivial⟩

/-- DECODE takes back what ENCODE framed (R107). -/
theorem decodeRecord_frameRecord {p : Params} {k : Packet} (hfits : Packet.fits p.mtu k = true) :
    decodeRecord p.mtu (frameRecord k) = some k := by
  have hrecord : FrameRec.fits p.mtu (frameRecord k) = true := by
    simp [FrameRec.fits, frameRecord, legalLen_frameLen hfits,
      framePayload_length_eq_frameLen hfits]
  have hdlen : frameLen k - BitVec.ofNat 8 hdrSize = k.dlen := by
    apply BitVec.eq_of_toNat_eq
    have hbound := k.dlen.isLt
    simp only [BitVec.toNat_sub, frameLen_toNat hfits, hdrSize, BitVec.toNat_ofNat]
    omega
  rw [decodeRecord, if_pos hrecord]
  simp [frameRecord, framePayload, pack, unpack_pack, hdlen]

/-! ## Tokens and records -/

@[simp] theorem dataRecords_data (f : FrameRec) : dataRecords [.data f] = [f] := rfl

@[simp] theorem dataRecords_append (xs ys : List Token) :
    dataRecords (xs ++ ys) = dataRecords xs ++ dataRecords ys := by
  simp [dataRecords]

/-- The packets of a token sequence, in order. -/
def tokenPackets (mtu : Nat) (toks : List Token) : List Packet :=
  (dataRecords toks).filterMap (decodeRecord mtu)

@[simp] theorem tokenPackets_nil (mtu : Nat) : tokenPackets mtu [] = [] := rfl

@[simp] theorem tokenPackets_ctrl (mtu : Nat) : tokenPackets mtu [.ctrl] = [] := rfl

@[simp] theorem tokenPackets_append (mtu : Nat) (xs ys : List Token) :
    tokenPackets mtu (xs ++ ys) = tokenPackets mtu xs ++ tokenPackets mtu ys := by
  simp [tokenPackets]

theorem tokenPackets_encodePacket {p : Params} {k : Packet} (hfits : Packet.fits p.mtu k = true) :
    tokenPackets p.mtu (parse p.mtu .hunt (encodePacket k)).1 = [k] := by
  simp [tokenPackets, parse_encodePacket hfits, decodeRecord_frameRecord hfits]

/-! ## The two ends of a direction -/

/-- Where in a frame the bytes of the sending end `s` that have left it end. -/
def emitPhase (s : State) : Phase := (parse s.cfg.mtu .hunt (emitted s)).2

/-- The tokens of the bytes the sending end `s` is still to emit of the frame it is emitting. -/
def unsentTokens (s : State) : List Token := (parse s.cfg.mtu (emitPhase s) (unsent s)).1

/-- The packets accepted at the sending end `s` whose frames have not left it whole. -/
def outgoing (s : State) : List Packet :=
  tokenPackets s.cfg.mtu (unsentTokens s) ++
    (gateRecord s).filterMap (decodeRecord s.cfg.mtu) ++ s.txq

/-- The tokens of the bytes in flight toward the receiving end `s`. -/
def lineTokens (s : State) : List Token := (parse s.cfg.mtu (phaseOf s) s.lineIn).1

/-- Where in a frame the bytes in flight toward the receiving end `s` end. -/
def linePhase (s : State) : Phase := (parse s.cfg.mtu (phaseOf s) s.lineIn).2

/-- The packets at the receiving end `s` or in flight toward it. -/
def incoming (s : State) : List Packet :=
  (s.rxq ++ pushRecord s).filterMap (decodeRecord s.cfg.mtu) ++
    tokenPackets s.cfg.mtu (lineTokens s)

/-- What `LinkInv` says of one direction of a link, from `a` to `b`. -/
def direction (sent : List Packet) (a b : State) : Prop :=
  a.cfg.mtu = b.cfg.mtu ∧ aligned a b ∧ inOrder sent a b

/-- A direction, seen from its two ends: they meet at the end of the bytes in flight. -/
theorem direction_iff {sent : List Packet} {a b : State} :
    direction sent a b ↔
      a.cfg.mtu = b.cfg.mtu ∧ Token.bad ∉ lineTokens b ∧ linePhase b = emitPhase a ∧
      sent.map toRxPkt = b.delivered ++ (incoming b ++ outgoing a).map toRxPkt := by
  refine and_congr_right fun hmtu => ?_
  rw [aligned, and_assoc]
  refine and_congr_right fun _ => ?_
  have hphase : (parse b.cfg.mtu .hunt (emitted a)).2 = emitPhase a := by rw [emitPhase, hmtu]
  rw [hphase]
  refine and_congr_right fun (hmeet : linePhase b = emitPhase a) => ?_
  have hstream : (streamTokens a b).1 = lineTokens b ++ unsentTokens a := by
    rw [streamTokens, parse_append, unsentTokens, hmtu, ← hmeet]
    rfl
  have htransit : inTransit a b = incoming b ++ outgoing a := by
    simp [inTransit, incoming, outgoing, hstream, tokenPackets, hmtu]
  rw [inOrder, htransit]

/-! ## A turn at the sending end -/

/-- What a turn of the sending end from `s` to `t` does for its direction: the bytes it hands to line-out carry
the emission from where it stood to where it stands, with no receive error in them, and the packets outgoing and
those newly accepted are the packets of these bytes and those still outgoing. -/
structure SenderStep (s t : State) : Prop where
  noBad : Token.bad ∉ (parse s.cfg.mtu (emitPhase s) t.lineOut).1
  phase : (parse s.cfg.mtu (emitPhase s) t.lineOut).2 = emitPhase t
  packets : outgoing s ++ newlySent s t =
    tokenPackets s.cfg.mtu (parse s.cfg.mtu (emitPhase s) t.lineOut).1 ++ outgoing t

/-- Two states with the same sending end. -/
structure SameSender (s t : State) : Prop where
  cfg : t.cfg = s.cfg
  txState : t.txState = s.txState
  txRet : t.txRet = s.txRet
  txIdx : t.txIdx = s.txIdx
  txBuf : t.txBuf = s.txBuf
  txFlen : t.txFlen = s.txFlen
  txq : t.txq = s.txq
  lineOut : t.lineOut = s.lineOut
  responses : t.responses = s.responses

theorem SameSender.refl (s : State) : SameSender s s := by
  constructor <;> rfl

theorem SameSender.heldFrame_eq {s t : State} (h : SameSender s t) : heldFrame t = heldFrame s := by
  rw [heldFrame, heldFrame, h.txBuf, h.txFlen]

theorem SameSender.emitPhase_eq {s t : State} (h : SameSender s t) : emitPhase t = emitPhase s := by
  rw [emitPhase, emitPhase, emitted, emitted, h.cfg, h.txState, h.txIdx, h.heldFrame_eq]

theorem SameSender.outgoing_eq {s t : State} (h : SameSender s t) : outgoing t = outgoing s := by
  have hunsent : unsent t = unsent s := by rw [unsent, unsent, h.txState, h.txIdx, h.heldFrame_eq]
  have hgate : gateRecord t = gateRecord s := by
    rw [gateRecord, gateRecord, holdsFrame, holdsFrame, h.txState, h.txRet, h.cfg, h.heldFrame_eq]
  rw [outgoing, outgoing, unsentTokens, unsentTokens, h.emitPhase_eq, hunsent, hgate, h.cfg, h.txq]

theorem newlySent_of_same_responses {s t : State} (h : t.responses = s.responses) :
    newlySent s t = [] := by
  simp [newlySent, h]

theorem SenderStep.trans_same {s u t : State} (hstep : SenderStep s u) (hsame : SameSender u t) :
    SenderStep s t := by
  have hsent : newlySent s t = newlySent s u := by
    rw [newlySent, newlySent, hsame.responses, hsame.txq]
  obtain ⟨hbad, hphase, hpackets⟩ := hstep
  constructor <;> rw [hsame.lineOut]
  · exact hbad
  · rw [hphase, hsame.emitPhase_eq]
  · rw [hsent, hpackets, hsame.outgoing_eq]

/-- A turn that hands over no byte, and leaves the emission where it stood. -/
theorem senderStep_silent {s t : State} (hout : t.lineOut = []) (hphase : emitPhase t = emitPhase s)
    (hpackets : outgoing s ++ newlySent s t = outgoing t) : SenderStep s t := by
  constructor <;> rw [hout]
  · simp
  · exact hphase.symm
  · exact hpackets

theorem SameSender.senderStep {s t : State} (h : SameSender s t) (hout : s.lineOut = []) :
    SenderStep s t :=
  senderStep_silent (h.lineOut.trans hout) h.emitPhase_eq
    (by rw [newlySent_of_same_responses h.responses, List.append_nil, h.outgoing_eq])

/-- A turn that hands over one byte, which carries the emission on. -/
theorem senderStep_emit {s t : State} {b : Byte} {ph ph' : Phase} {tok : Option Token}
    (hout : t.lineOut = [b]) (hs : emitPhase s = ph) (ht : emitPhase t = ph')
    (hbyte : phaseByte s.cfg.mtu ph b = (ph', tok)) (hgood : tok ≠ some .bad)
    (hpackets : outgoing s = tokenPackets s.cfg.mtu tok.toList ++ outgoing t)
    (hresp : t.responses = s.responses) : SenderStep s t := by
  constructor <;> simp only [hout, parse, hs, hbyte, List.append_nil]
  · simpa using hgood
  · exact ht.symm
  · rw [newlySent_of_same_responses hresp, List.append_nil, hpackets]

/-! ## TXF's operations -/

/-- The packet whose frame TXF holds (R30). -/
def heldPackets (s : State) : List Packet :=
  if holdsFrame s then tokenPackets s.cfg.mtu (parse s.cfg.mtu .hunt (heldFrame s)).1 else []

theorem emitPhase_of_txIdx_zero {s : State} (h : s.txIdx = 0) : emitPhase s = .hunt := by
  cases hst : s.txState <;> simp [emitPhase, emitted, hst, h]

/-- What is still to be emitted outside T_XMIT is the rest of a CTRL frame, which carries no packet. -/
theorem tokenPackets_unsent_of_not_xmit {s : State} (hst : s.txState ≠ .xmit)
    (hidx : s.txIdx = 0 ∨ s.txIdx = 1) : tokenPackets s.cfg.mtu (unsentTokens s) = [] := by
  rw [unsentTokens, emitPhase, emitted, unsent]
  cases hstate : s.txState with
  | ctrl => obtain h | h := hidx <;> rw [h] <;> rfl
  | suWait => rfl
  | check => rfl
  | wait1 => rfl
  | gate => rfl
  | xmit => exact absurd hstate hst

theorem gatePackets_of_not_xmit {s : State} (hst : s.txState ≠ .xmit) :
    (gateRecord s).filterMap (decodeRecord s.cfg.mtu) = heldPackets s := by
  simp only [gateRecord, heldPackets, bne_iff_ne.2 hst, Bool.and_true, tokenPackets]
  split <;> rfl

theorem gateRecord_of_xmit {s : State} (hst : s.txState = .xmit) : gateRecord s = [] := by
  simp [gateRecord, hst]

theorem outgoing_of_not_xmit {s : State} (hst : s.txState ≠ .xmit)
    (hidx : s.txIdx = 0 ∨ s.txIdx = 1) : outgoing s = heldPackets s ++ s.txq := by
  rw [outgoing, tokenPackets_unsent_of_not_xmit hst hidx, gatePackets_of_not_xmit hst,
    List.nil_append]

theorem outgoing_of_xmit {s : State} (hst : s.txState = .xmit) :
    outgoing s = tokenPackets s.cfg.mtu (unsentTokens s) ++ s.txq := by
  rw [outgoing, gateRecord_of_xmit hst, List.filterMap_nil, List.append_nil]

/-- Between frames the packets outgoing are the one held and those queued. -/
theorem outgoing_of_txIdx_zero {s : State} (hidx : s.txIdx = 0) :
    outgoing s = heldPackets s ++ s.txq := by
  by_cases hst : s.txState = .xmit
  · rw [outgoing_of_xmit hst, unsentTokens, emitPhase_of_txIdx_zero hidx]
    simp [unsent, heldPackets, holdsFrame, hst, hidx]
  · exact outgoing_of_not_xmit hst (.inl hidx)

/-- A turn between frames: the packets held and queued stay the same, and no SEND is taken. -/
theorem senderStep_between {s t : State} (hout : t.lineOut = []) (hs : s.txIdx = 0)
    (ht : t.txIdx = 0) (hpackets : heldPackets s ++ s.txq = heldPackets t ++ t.txq)
    (hresp : t.responses = s.responses) : SenderStep s t := by
  refine senderStep_silent hout ?_ ?_
  · rw [emitPhase_of_txIdx_zero hs, emitPhase_of_txIdx_zero ht]
  · rw [newlySent_of_same_responses hresp, List.append_nil, outgoing_of_txIdx_zero hs,
      outgoing_of_txIdx_zero ht, hpackets]

/-- The held packet is read from the held frame alone. -/
theorem heldPackets_congr {s t : State} (hholds : holdsFrame t = holdsFrame s)
    (hframe : heldFrame t = heldFrame s) (hcfg : t.cfg = s.cfg) : heldPackets t = heldPackets s := by
  rw [heldPackets, heldPackets, hholds, hframe, hcfg]

theorem heldPackets_eq_nil {s : State} (h : holdsFrame s = false) : heldPackets s = [] := by
  simp [heldPackets, h]

theorem emitPhase_of_ctrl_one {s : State} (hst : s.txState = .ctrl) (hidx : s.txIdx = 1) :
    emitPhase s = .len := by
  rw [emitPhase, emitted, hst, hidx]
  rfl

/-- The state after a CTRL frame holds the frame the CTRL frame was sent beside (R27, R30). -/
theorem holdsFrame_of_retState {s t : State} (hs : s.txState = .ctrl)
    (ht : t.txState = retState s.txRet) : holdsFrame t = holdsFrame s := by
  rw [holdsFrame, holdsFrame, hs, ht]
  cases s.txRet <;> rfl

/-- A byte of a CTRL frame leaves (R161). -/
theorem ctrlEmit_senderStep {s : State} (h : EndInv s) (hst : s.txState = .ctrl)
    (hout : s.lineOut = []) : SenderStep s (ctrlEmit s) := by
  have hrow := senderRow_of_endInv h
  simp only [senderRow, hst] at hrow
  obtain ⟨hidx, -⟩ := hrow
  have hgoing : outgoing s = heldPackets s ++ s.txq := outgoing_of_not_xmit (by simp [hst]) hidx
  obtain hidx | hidx := hidx
  · have ht : ctrlEmit s = { emit startByte s with txIdx := 1 } := by
      rw [ctrlEmit, if_pos hidx, hidx]
      rfl
    have hstill : outgoing (ctrlEmit s) = heldPackets s ++ s.txq := by
      rw [ht]
      exact outgoing_of_not_xmit (by simp [hst]) (.inr rfl)
    exact senderStep_emit (b := startByte) (tok := none) (by simp [ht, hout])
      (emitPhase_of_txIdx_zero hidx) (emitPhase_of_ctrl_one (by rw [ht]; exact hst) (by rw [ht])) rfl
      (by simp) (by rw [hgoing, hstill]; rfl) (by rw [ht]; rfl)
  · have ht : ctrlEmit s =
        { emit 0 s with
          txIdx := 0
          txState := retState s.txRet
          txTimer := if s.txRet = .suWait then s.cfg.startupInterval else s.txTimer } := by
      rw [ctrlEmit, if_neg (by simp [hidx]), hidx]
      rfl
    have hstill : outgoing (ctrlEmit s) = heldPackets s ++ s.txq := by
      rw [outgoing_of_txIdx_zero (by rw [ht]),
        heldPackets_congr (holdsFrame_of_retState hst (by rw [ht])) (by rw [ht]; rfl)
          (by rw [ht]; rfl), ht]
      rfl
    exact senderStep_emit (b := 0) (tok := some .ctrl) (by simp [ht, hout])
      (emitPhase_of_ctrl_one hst hidx) (emitPhase_of_txIdx_zero (by rw [ht])) rfl
      (by simp) (by rw [hgoing, hstill]; rfl) (by rw [ht]; rfl)

theorem suTick_senderStep {s : State} (hout : s.lineOut = []) : SenderStep s (suTick s) :=
  SameSender.senderStep ⟨rfl, rfl, rfl, rfl, rfl, rfl, rfl, rfl, rfl⟩ hout

/-- A turn between frames that keeps whether a frame is held, the frame, and the queue. -/
theorem senderStep_keeping {s t : State} (hout : t.lineOut = []) (hs : s.txIdx = 0)
    (ht : t.txIdx = 0) (hholds : holdsFrame t = holdsFrame s) (hframe : heldFrame t = heldFrame s)
    (hcfg : t.cfg = s.cfg) (htxq : t.txq = s.txq) (hresp : t.responses = s.responses) : SenderStep s t :=
  senderStep_between hout hs ht (by rw [heldPackets_congr hholds hframe hcfg, htxq]) hresp

theorem suSample_senderStep {s : State} (hst : s.txState = .suWait) (hidx : s.txIdx = 0)
    (hout : s.lineOut = []) : SenderStep s (suSample s) := by
  have hholds : holdsFrame s = false := by simp [holdsFrame, hst]
  unfold suSample
  split
  · exact senderStep_keeping hout hidx hidx hholds.symm rfl rfl rfl rfl
  · exact senderStep_keeping hout hidx rfl hholds.symm rfl rfl rfl rfl

theorem checkEmpty_senderStep {s : State} (hst : s.txState = .check) (hidx : s.txIdx = 0)
    (hout : s.lineOut = []) : SenderStep s (checkEmpty s) := by
  have hholds : holdsFrame s = false := by simp [holdsFrame, hst]
  exact senderStep_keeping hout hidx hidx hholds.symm rfl rfl rfl rfl

theorem wait1Observe_senderStep {s : State} (hst : s.txState = .wait1) (hidx : s.txIdx = 0)
    (hout : s.lineOut = []) : SenderStep s (wait1Observe s) := by
  have hholds : holdsFrame s = false := by simp [holdsFrame, hst]
  unfold wait1Observe
  split
  · exact senderStep_keeping hout hidx rfl hholds.symm rfl rfl rfl rfl
  · exact senderStep_keeping hout hidx hidx hholds.symm rfl rfl rfl rfl

theorem gateNext_cases (obs : BitVec 3) : gateNext obs = .xmit ∨ gateNext obs = .gate := by
  unfold gateNext
  split <;> simp

/-- The frame held at T_GATE stays held, with a CTRL frame before it or not (R167). -/
theorem gateObserve_senderStep {s : State} (hst : s.txState = .gate) (hidx : s.txIdx = 0)
    (hout : s.lineOut = []) : SenderStep s (gateObserve s) := by
  have hnext := gateNext_cases (sigObserved gateSet s.sig)
  unfold gateObserve
  split
  · refine senderStep_keeping hout hidx rfl ?_ rfl rfl rfl rfl
    obtain hret | hret := hnext <;> simp [holdsFrame, sendCtrl, hret, hst]
  · refine senderStep_keeping hout hidx hidx ?_ rfl rfl rfl rfl
    obtain hret | hret := hnext <;> simp [holdsFrame, retState, hret, hst]

/-- The packet of the frame TXF holds. -/
theorem heldPackets_of_frame {s : State} {k : Packet} (hholds : holdsFrame s = true)
    (hfits : Packet.fits s.cfg.mtu k = true) (hframe : heldFrame s = encodePacket k) :
    heldPackets s = [k] := by
  rw [heldPackets, if_pos hholds, hframe, tokenPackets_encodePacket hfits]

/-- The packet at TXQ's head becomes the one whose frame is held (R165). -/
theorem checkDeq_senderStep {s t : State} (hst : s.txState = .check) (hidx : s.txIdx = 0)
    (hout : s.lineOut = []) (h : checkDeq s = .next t) : SenderStep s t := by
  obtain ⟨-, rfl⟩ | ⟨k, rest, hq, hfits, -, ht⟩ := checkDeq_next h
  · exact (SameSender.refl _).senderStep hout
  have hframe : heldFrame t = encodePacket k := by
    have hlen := encodePacket_length_le hfits
    have hmtu := s.cfg.mtu_le
    have hflen : t.txFlen.toNat = (encodePacket k).length := by
      rw [ht]
      exact Nat.mod_eq_of_lt (by omega)
    rw [heldFrame, hflen, ht, List.take_left]
  have hheld : heldPackets t = [k] :=
    heldPackets_of_frame (by rw [ht]; rfl) (by rw [ht]; exact hfits) hframe
  have hnone : heldPackets s = [] := heldPackets_eq_nil (by simp [holdsFrame, hst])
  have htxq : t.txq = rest := by rw [ht]
  exact senderStep_between (by rw [ht]; exact hout) hidx (by rw [ht])
    (by rw [hnone, hheld, hq, htxq]; rfl) (by rw [ht])

/-! ## A byte of a DATA frame -/

/-- What has left TXF and what is still to leave it make up the frame it emits. -/
theorem emitted_append_unsent_of_xmit {s : State} (hst : s.txState = .xmit) :
    emitted s ++ unsent s = heldFrame s := by
  simp only [emitted, unsent, hst, List.take_append_drop]

/-- TX_XMIT's byte is the next of the held frame (R168). -/
theorem unsent_of_xmit {s : State} {b : Byte} (hst : s.txState = .xmit)
    (hidx : s.txIdx.toNat < s.txFlen.toNat) (hb : s.txBuf[s.txIdx.toNat]? = some b) :
    unsent s = b :: (heldFrame s).drop (s.txIdx.toNat + 1) := by
  have hget : (heldFrame s)[s.txIdx.toNat]? = some b := by
    rw [heldFrame, List.getElem?_take_of_lt hidx, hb]
  obtain ⟨hlt, rfl⟩ := List.getElem?_eq_some_iff.1 hget
  simp only [unsent, hst]
  exact List.drop_eq_getElem_cons hlt

/-- A frame that a packet was encoded to has no receive error in it, and ends between frames. -/
theorem parse_heldFrame {s : State} (h : carriesFrame s) :
    Token.bad ∉ (parse s.cfg.mtu .hunt (heldFrame s)).1 ∧
      (parse s.cfg.mtu .hunt (heldFrame s)).2 = .hunt := by
  obtain ⟨k, hfits, hframe, -⟩ := h
  rw [hframe, parse_encodePacket hfits]
  simp

/-- TXF's next byte in T_XMIT, and the rest of its frame, read on from where the emission stands. -/
theorem parse_unsent_of_xmit {s : State} {b : Byte} {rest : List Byte} (hst : s.txState = .xmit)
    (hcarries : carriesFrame s) (hunsent : unsent s = b :: rest) :
    (phaseByte s.cfg.mtu (emitPhase s) b).2 ≠ some .bad ∧
      (parse s.cfg.mtu (phaseByte s.cfg.mtu (emitPhase s) b).1 rest).2 = .hunt := by
  obtain ⟨hgood, hend⟩ := parse_heldFrame hcarries
  rw [← emitted_append_unsent_of_xmit hst, hunsent, parse_append] at hgood hend
  refine ⟨fun hbad => hgood (List.mem_append_right _ ?_), hend⟩
  rw [parse, ← emitPhase, hbad]
  exact List.mem_cons_self

theorem outgoing_of_unsent_cons {s : State} {b : Byte} {rest : List Byte} (hst : s.txState = .xmit)
    (hunsent : unsent s = b :: rest) :
    outgoing s = tokenPackets s.cfg.mtu (phaseByte s.cfg.mtu (emitPhase s) b).2.toList ++
      (tokenPackets s.cfg.mtu
        (parse s.cfg.mtu (phaseByte s.cfg.mtu (emitPhase s) b).1 rest).1 ++ s.txq) := by
  rw [outgoing_of_xmit hst, unsentTokens, hunsent, parse, tokenPackets_append, List.append_assoc]

/-- The last byte of a DATA frame leaves, and the packet with it. -/
theorem senderStep_lastByte {s t : State} {b : Byte} (hst : s.txState = .xmit)
    (hcarries : carriesFrame s) (hunsent : unsent s = [b])
    (ht : t = { emit b s with txIdx := 0, txState := .check }) (hout : s.lineOut = []) :
    SenderStep s t := by
  obtain ⟨hgood, hend⟩ := parse_unsent_of_xmit hst hcarries hunsent
  have hnext : outgoing t = s.txq := by
    rw [outgoing_of_txIdx_zero (by rw [ht]), heldPackets_eq_nil (by simp [holdsFrame, ht]), ht]
    rfl
  refine senderStep_emit (tok := (phaseByte s.cfg.mtu (emitPhase s) b).2) (by simp [ht, hout]) rfl
    (emitPhase_of_txIdx_zero (by rw [ht])) (Prod.ext hend rfl) hgood ?_ (by rw [ht]; rfl)
  rw [outgoing_of_unsent_cons hst hunsent, hnext]
  rfl

/-- A byte of a DATA frame leaves that is not its last. -/
theorem senderStep_nextByte {s t : State} {b : Byte} (hst : s.txState = .xmit)
    (hcarries : carriesFrame s) (hunsent : unsent s = b :: unsent t)
    (hemitted : emitted t = emitted s ++ [b]) (ht : t = { emit b s with txIdx := s.txIdx + 1 })
    (hout : s.lineOut = []) : SenderStep s t := by
  obtain ⟨hgood, -⟩ := parse_unsent_of_xmit hst hcarries hunsent
  have htst : t.txState = .xmit := by rw [ht]; exact hst
  have hcfg : t.cfg = s.cfg := by rw [ht]; rfl
  have htxq : t.txq = s.txq := by rw [ht]; rfl
  have hphase : emitPhase t = (phaseByte s.cfg.mtu (emitPhase s) b).1 := by
    rw [emitPhase, hemitted, hcfg, parse_append, emitPhase]
    rfl
  have hnext : outgoing t = tokenPackets s.cfg.mtu
      (parse s.cfg.mtu (phaseByte s.cfg.mtu (emitPhase s) b).1 (unsent t)).1 ++ s.txq := by
    rw [outgoing_of_xmit htst, unsentTokens, hphase, hcfg, htxq]
  refine senderStep_emit (tok := (phaseByte s.cfg.mtu (emitPhase s) b).2) (by simp [ht, hout]) rfl
    hphase rfl hgood ?_ (by rw [ht]; rfl)
  rw [outgoing_of_unsent_cons hst hunsent, hnext]

/-- A byte of a DATA frame leaves (R168). -/
theorem xmitByte_senderStep {s t : State} (hinv : EndInv s) (hst : s.txState = .xmit)
    (hout : s.lineOut = []) (h : xmitByte s = .next t) : SenderStep s t := by
  have hrow := senderRow_of_endInv hinv
  simp only [senderRow, hst] at hrow
  obtain ⟨hidx, -, hcarries⟩ := hrow
  obtain ⟨b, hb, ht⟩ := xmitByte_next h
  have hunsent := unsent_of_xmit hst hidx hb
  have hsucc : (s.txIdx + 1).toNat = s.txIdx.toNat + 1 := by bv_omega
  split at ht
  next hlast =>
    refine senderStep_lastByte hst hcarries (hunsent.trans ?_) ht hout
    rw [← hsucc, hlast]
    simp [heldFrame]
  next hmore =>
    have htst : t.txState = .xmit := by rw [ht]; exact hst
    have hframe : heldFrame t = heldFrame s := by rw [ht]; rfl
    have htidx : t.txIdx.toNat = s.txIdx.toNat + 1 := by rw [ht]; exact hsucc
    have htunsent : unsent t = (heldFrame s).drop (s.txIdx.toNat + 1) := by
      rw [unsent, htst, hframe, htidx]
    refine senderStep_nextByte hst hcarries (by rw [hunsent, htunsent]) ?_ ht hout
    have hwhole : emitted t ++ unsent t = (emitted s ++ [b]) ++ unsent t := by
      rw [emitted_append_unsent_of_xmit htst, hframe, ← emitted_append_unsent_of_xmit hst, hunsent,
        htunsent, List.append_assoc]
      rfl
    exact List.append_cancel_right hwhole

/-! ## A turn at the receiving end -/

/-- What a turn of the receiving end from `s` to `t` does for its direction: it raises no receive error and leaves
none on the line, the bytes in flight end where they ended, and the packets delivered and those incoming are the
same sequence. -/
structure ReceiverStep (s t : State) : Prop where
  goesOn : running t = true
  noBad : Token.bad ∉ lineTokens t
  phase : linePhase t = linePhase s
  packets : t.delivered ++ (incoming t).map toRxPkt = s.delivered ++ (incoming s).map toRxPkt

/-- Two states with the same receiving end. -/
structure SameReceiver (s t : State) : Prop where
  cfg : t.cfg = s.cfg
  rst : t.rst = s.rst
  fault : t.fault = s.fault
  rxState : t.rxState = s.rxState
  rxLen : t.rxLen = s.rxLen
  rxCnt : t.rxCnt = s.rxCnt
  rxBuf : t.rxBuf = s.rxBuf
  lineIn : t.lineIn = s.lineIn
  rxq : t.rxq = s.rxq
  delivered : t.delivered = s.delivered

theorem SameReceiver.refl (s : State) : SameReceiver s s := by
  constructor <;> rfl

theorem SameReceiver.running_eq {s t : State} (h : SameReceiver s t) : running t = running s := by
  rw [running, running, h.rst, h.fault]

theorem SameReceiver.phaseOf_eq {s t : State} (h : SameReceiver s t) : phaseOf t = phaseOf s := by
  rw [phaseOf, phaseOf, h.rxState, h.rxLen, h.rxCnt, h.rxBuf]

theorem SameReceiver.lineTokens_eq {s t : State} (h : SameReceiver s t) :
    lineTokens t = lineTokens s := by
  rw [lineTokens, lineTokens, h.phaseOf_eq, h.cfg, h.lineIn]

theorem SameReceiver.linePhase_eq {s t : State} (h : SameReceiver s t) :
    linePhase t = linePhase s := by
  rw [linePhase, linePhase, h.phaseOf_eq, h.cfg, h.lineIn]

theorem SameReceiver.incoming_eq {s t : State} (h : SameReceiver s t) : incoming t = incoming s := by
  have hpush : pushRecord t = pushRecord s := by
    rw [pushRecord, pushRecord, h.rxState, h.rxLen, h.rxBuf]
  rw [incoming, incoming, h.lineTokens_eq, hpush, h.cfg, h.rxq]

/-- A step of the receiving end after one that leaves it as it is. -/
theorem SameReceiver.trans_step {s u t : State} (hsame : SameReceiver s u)
    (hstep : ReceiverStep u t) : ReceiverStep s t := by
  obtain ⟨hrun, hgood, hphase, hpackets⟩ := hstep
  exact ⟨hrun, hgood, by rw [hphase, hsame.linePhase_eq],
    by rw [hpackets, hsame.delivered, hsame.incoming_eq]⟩

theorem ReceiverStep.refl {s : State} (hrun : running s = true) (hgood : Token.bad ∉ lineTokens s) :
    ReceiverStep s s :=
  ⟨hrun, hgood, rfl, rfl⟩

theorem SameReceiver.receiverStep {s t : State} (h : SameReceiver s t) (hrun : running s = true)
    (hgood : Token.bad ∉ lineTokens s) : ReceiverStep s t :=
  h.trans_step (ReceiverStep.refl (by rw [h.running_eq, hrun]) (by rwa [h.lineTokens_eq]))

/-! ## RXF's operations -/

/-- RXF takes the byte `b` as a parse of the line reads it: a completed record stands in R_PUSH (R86). -/
structure ReadsByte (b : Byte) (s t : State) : Prop where
  phase : phaseOf t = (phaseByte s.cfg.mtu (phaseOf s) b).1
  record : pushRecord t = dataRecords (phaseByte s.cfg.mtu (phaseOf s) b).2.toList
  goesOn : running t = true
  cfg : t.cfg = s.cfg
  lineIn : t.lineIn = s.lineIn.tail
  rxq : t.rxq = s.rxq
  delivered : t.delivered = s.delivered

theorem phaseOf_hunt {s : State} (h : s.rxState = .hunt) : phaseOf s = .hunt := by
  rw [phaseOf, h]

theorem phaseOf_len {s : State} (h : s.rxState = .len) : phaseOf s = .len := by
  rw [phaseOf, h]

theorem phaseOf_payload {s : State} (h : s.rxState = .payload) :
    phaseOf s = .body s.rxLen (s.rxBuf.take s.rxCnt.toNat) := by
  rw [phaseOf, h]

theorem phaseOf_cksum {s : State} (h : s.rxState = .cksum) :
    phaseOf s = .cksum s.rxLen (s.rxBuf.take s.rxLen.toNat) := by
  rw [phaseOf, h]

theorem pushRecord_of_not_push {s : State} (h : s.rxState ≠ .push) : pushRecord s = [] :=
  if_neg h

theorem huntStart_readsByte {s : State} (hst : s.rxState = .hunt) (hrun : running s = true) :
    ReadsByte startByte s (huntStart s) := by
  have hbyte : phaseByte s.cfg.mtu (phaseOf s) startByte = (.len, none) := by
    rw [phaseOf_hunt hst]; rfl
  exact ⟨by rw [hbyte]; rfl, by rw [hbyte]; rfl, hrun, rfl, rfl, rfl, rfl⟩

theorem huntSkip_readsByte {s : State} {b : Byte} (hst : s.rxState = .hunt) (hrun : running s = true)
    (hb : b ≠ startByte) : ReadsByte b s (huntSkip s) := by
  have hbyte : phaseByte s.cfg.mtu (phaseOf s) b = (.hunt, none) := by
    rw [phaseOf_hunt hst, phaseByte, if_neg hb]
  exact ⟨by rw [hbyte]; exact phaseOf_hunt hst,
    by rw [hbyte]; exact pushRecord_of_not_push (by simp [huntSkip, hst]), hrun, rfl, rfl, rfl, rfl⟩

theorem lenCtrl_readsByte {s : State} (hst : s.rxState = .len) (hrun : running s = true) :
    ReadsByte 0 s (lenCtrl s) := by
  have hbyte : phaseByte s.cfg.mtu (phaseOf s) 0 = (.hunt, some .ctrl) := by
    rw [phaseOf_len hst]; rfl
  exact ⟨by rw [hbyte]; rfl, by rw [hbyte]; rfl, hrun, rfl, rfl, rfl, rfl⟩

theorem lenData_readsByte {s : State} {b : Byte} (hst : s.rxState = .len) (hrun : running s = true)
    (hlegal : legalLen s.cfg.mtu b = true) : ReadsByte b s (lenData b s) := by
  have hbyte : phaseByte s.cfg.mtu (phaseOf s) b = (.body b [], none) := by
    rw [phaseOf_len hst, phaseByte_legalLen hlegal]
  exact ⟨by rw [hbyte]; rfl, by rw [hbyte]; rfl, hrun, rfl, rfl, rfl, rfl⟩

/-- The count of R145 ends with the payload, as a parse of the line does. -/
theorem payloadByte_readsByte {s t : State} {b : Byte} (hinv : EndInv s) (hst : s.rxState = .payload)
    (hrun : running s = true) (h : payloadByte b s = .next t) : ReadsByte b s t := by
  obtain ⟨hroom, ht⟩ := payloadByte_next h
  obtain ⟨-, -, hrecv, -⟩ := hinv
  obtain ⟨-, hlt, -⟩ := (receiverOk_payload hst).1 hrecv
  have hbound := s.rxLen.isLt
  have hcnt : (s.rxCnt + 1).toNat = s.rxCnt.toNat + 1 := by bv_omega
  have htake : t.rxBuf.take (s.rxCnt + 1).toNat = s.rxBuf.take s.rxCnt.toNat ++ [b] := by
    rw [ht, hcnt, take_set_succ b hroom]
  have hlast : (s.rxBuf.take s.rxCnt.toNat).length + 1 = s.rxLen.toNat ↔ s.rxCnt + 1 = s.rxLen := by
    rw [List.length_take_of_le hroom.le, ← BitVec.toNat_inj, hcnt]
  suffices hphase : phaseOf t = (phaseByte s.cfg.mtu (phaseOf s) b).1 ∧
      pushRecord t = dataRecords (phaseByte s.cfg.mtu (phaseOf s) b).2.toList by
    refine ⟨hphase.1, hphase.2, ?_, ?_, ?_, ?_, ?_⟩ <;> rw [ht]
    exact hrun
  rw [phaseOf_payload hst, phaseByte]
  by_cases hend : s.rxCnt + 1 = s.rxLen
  · rw [if_pos (hlast.2 hend)]
    have htst : t.rxState = .cksum := by rw [ht]; exact if_pos hend
    have htlen : t.rxLen = s.rxCnt + 1 := by rw [ht, hend]
    refine ⟨?_, pushRecord_of_not_push (by simp [htst])⟩
    rw [phaseOf_cksum htst, htlen, htake, hend]
  · rw [if_neg (mt hlast.1 hend)]
    have htst : t.rxState = .payload := by rw [ht]; exact if_neg hend
    have htcnt : t.rxCnt = s.rxCnt + 1 := by rw [ht]
    refine ⟨?_, pushRecord_of_not_push (by simp [htst])⟩
    rw [phaseOf_payload htst, htcnt, htake, ht]

/-- The accumulator is the checksum of what a parse of the line has read (R149). -/
theorem phaseByte_cksum {s : State} (b : Byte) (hinv : EndInv s) (hst : s.rxState = .cksum) :
    phaseByte s.cfg.mtu (phaseOf s) b =
      if b = s.rxAcc then
        (.hunt, some (.data { len := s.rxLen, payload := s.rxBuf.take s.rxLen.toNat }))
      else (.hunt, some .bad) := by
  obtain ⟨-, -, hrecv, -⟩ := hinv
  obtain ⟨-, -, hacc⟩ := (receiverOk_cksum hst).1 hrecv
  rw [phaseOf_cksum hst, phaseByte, hacc]

theorem cksumOk_readsByte {s : State} (hinv : EndInv s) (hst : s.rxState = .cksum)
    (hrun : running s = true) : ReadsByte s.rxAcc s (cksumOk s) := by
  have hbyte := phaseByte_cksum s.rxAcc hinv hst
  rw [if_pos rfl] at hbyte
  exact ⟨by rw [hbyte]; rfl, by rw [hbyte]; rfl, hrun, rfl, rfl, rfl, rfl⟩

/-- RXF reads a byte that is no receive error as a parse of the line does (R86). -/
theorem receiveByte_readsByte {s t : State} {b : Byte} (hinv : EndInv s) (hrun : running s = true)
    (hpush : s.rxState ≠ .push) (hgood : (phaseByte s.cfg.mtu (phaseOf s) b).2 ≠ some .bad)
    (h : receiveByte b s = .next t) : ReadsByte b s t := by
  obtain ⟨hstopped, -⟩ | ⟨-, hrow⟩ := receiveByte_next h
  · simp [hrun] at hstopped
  obtain ⟨hst, rfl, rfl⟩ | ⟨hst, hb, rfl⟩ | ⟨hst, rfl, rfl⟩ | ⟨hst, -, hlegal, rfl⟩ |
    ⟨hst, hzero, hillegal, -⟩ | ⟨hst, hstored⟩ | ⟨hst, rfl, rfl⟩ | ⟨hst, hb, -⟩ | ⟨hst, -⟩ := hrow
  · exact huntStart_readsByte hst hrun
  · exact huntSkip_readsByte hst hrun hb
  · exact lenCtrl_readsByte hst hrun
  · exact lenData_readsByte hst hrun hlegal
  · exact absurd (by rw [phaseOf_len hst, phaseByte, if_neg hzero, if_neg (by simp [hillegal])]) hgood
  · exact payloadByte_readsByte hinv hst hrun hstored
  · exact cksumOk_readsByte hinv hst hrun
  · exact absurd (by rw [phaseByte_cksum b hinv hst, if_neg hb]) hgood
  · exact absurd hst hpush

/-- A byte taken from the line is what a parse of the line reads first. -/
theorem ReadsByte.receiverStep {s t : State} {b : Byte} {rest : List Byte} (h : ReadsByte b s t)
    (hpush : s.rxState ≠ .push) (hline : s.lineIn = b :: rest) (hgood : Token.bad ∉ lineTokens s) :
    ReceiverStep s t := by
  have htline : t.lineIn = rest := by rw [h.lineIn, hline]; rfl
  have htokens : lineTokens s = (phaseByte s.cfg.mtu (phaseOf s) b).2.toList ++ lineTokens t := by
    rw [lineTokens, lineTokens, hline, parse, h.phase, h.cfg, htline]
  refine ⟨h.goesOn, fun hbad => hgood ?_, ?_, ?_⟩
  · rw [htokens]
    exact List.mem_append_right _ hbad
  · rw [linePhase, linePhase, hline, parse, h.phase, h.cfg, htline]
  · have hincoming : incoming t = incoming s := by
      rw [incoming, incoming, htokens, h.record, h.rxq, h.cfg, pushRecord_of_not_push hpush,
        tokenPackets_append, List.filterMap_append, List.append_nil, List.append_assoc]
      rfl
    rw [h.delivered, hincoming]

theorem receiveByte_receiverStep {s t : State} {b : Byte} {rest : List Byte} (hinv : EndInv s)
    (hrun : running s = true) (hpush : s.rxState ≠ .push) (hline : s.lineIn = b :: rest)
    (hgood : Token.bad ∉ lineTokens s) (h : receiveByte b s = .next t) : ReceiverStep s t := by
  have hbyteGood : (phaseByte s.cfg.mtu (phaseOf s) b).2 ≠ some .bad := by
    refine fun hbad => hgood ?_
    rw [lineTokens, hline, parse, hbad]
    exact List.mem_cons_self
  exact (receiveByte_readsByte hinv hrun hpush hbyteGood h).receiverStep hpush hline hgood

/-- The frame RXF holds goes to RXQ's end (R148). -/
theorem pushFrame_receiverStep {s t : State} (hrun : running s = true) (hst : s.rxState = .push)
    (hgood : Token.bad ∉ lineTokens s) (h : pushFrame s = .next t) : ReceiverStep s t := by
  obtain ⟨-, rfl⟩ := pushFrame_next h
  have hphase : phaseOf s = .hunt := by rw [phaseOf, hst]
  rw [lineTokens, hphase] at hgood
  refine ⟨hrun, hgood, by rw [linePhase, linePhase, hphase]; rfl, ?_⟩
  rw [incoming, incoming, lineTokens, lineTokens, hphase]
  simp [pushRecord, hst, phaseOf]

/-- RXQ's head becomes the packet delivered last (R195). -/
theorem deliverHead_receiverStep {s t : State} (hrun : running s = true)
    (hgood : Token.bad ∉ lineTokens s) (h : deliverHead s = .next t) : ReceiverStep s t := by
  obtain ⟨-, rfl⟩ | ⟨f, rest, k, hq, hdecode, rfl⟩ := deliverHead_next h
  · exact .refl hrun hgood
  · refine ⟨hrun, hgood, rfl, ?_⟩
    have hincoming : incoming s = k :: ((rest ++ pushRecord s).filterMap (decodeRecord s.cfg.mtu) ++
        tokenPackets s.cfg.mtu (lineTokens s)) := by
      rw [incoming, hq, List.cons_append, List.filterMap_cons_some hdecode, List.cons_append]
    rw [hincoming, List.map_cons, ← List.append_cons]
    rfl

/-! ## Each agent's turn, from both ends -/

/-- A turn of one end that keeps order in both of the directions it stands in. -/
def keepsOrder (s t : State) : Prop := SenderStep s t ∧ ReceiverStep s t

/-- An end whose bytes out have been put on the line, and which no receive error awaits. -/
structure Undisturbed (s : State) : Prop where
  inv : EndInv s
  runs : running s = true
  drained : s.lineOut = []
  noBad : Token.bad ∉ lineTokens s

theorem Undisturbed.keepsOrder_of_sender {s t : State} (h : Undisturbed s) (hsend : SenderStep s t)
    (hsame : SameReceiver s t) : keepsOrder s t :=
  ⟨hsend, hsame.receiverStep h.runs h.noBad⟩

theorem Undisturbed.keepsOrder_of_receiver {s t : State} (h : Undisturbed s) (hsame : SameSender s t)
    (hrecv : ReceiverStep s t) : keepsOrder s t :=
  ⟨hsame.senderStep h.drained, hrecv⟩

/-- A turn that changes nothing of the end but what no direction reads. -/
theorem Undisturbed.keepsOrder_of_same {s t : State} (h : Undisturbed s) (hsend : SameSender s t)
    (hrecv : SameReceiver s t) : keepsOrder s t :=
  ⟨hsend.senderStep h.drained, hrecv.receiverStep h.runs h.noBad⟩

theorem Undisturbed.waits {s : State} (h : Undisturbed s) : keepsOrder s s :=
  h.keepsOrder_of_same (.refl s) (.refl s)

/-! ### TXF -/

/-- The row of R87 that TXF's state selects. -/
def txfRow (s : State) : Instr :=
  match s.txState with
  | .ctrl => .txCtrl
  | .suWait => if s.txTimer == 0 then .txSuSample else .txSuTick
  | .check => if s.txq.isEmpty then .txCheckEmpty else .txCheckDeq
  | .wait1 => .txWait1
  | .gate => .txGate
  | .xmit => .txXmit

theorem perform_txf_eq {s : State} (hrst : s.rst = false) : perform .txf s = exec (txfRow s) s := by
  have hdecode : decode (selectCtx s) (.txf (txCode s.txState)) = .ok (txfRow s) := by
    rw [decode, txfRow]
    cases s.txState <;> rfl
  exact perform_of_decode rfl (by simp [fetchCode, hrst]) hdecode

/-- An instruction waits, or does what it means. -/
theorem exec_next {i : Instr} {s t : State} (h : exec i s = .next t) :
    t = s ∨ meaning i s = .next t := by
  rw [exec_eq_whenEnabled] at h
  obtain ⟨-, hmeaning⟩ | ⟨-, rfl⟩ := whenEnabled_eq_next.1 h
  · exact .inr hmeaning
  · exact .inl rfl

theorem ctrlEmit_sameReceiver (s : State) : SameReceiver s (ctrlEmit s) := by
  unfold ctrlEmit
  split <;> constructor <;> rfl

theorem suSample_sameReceiver (s : State) : SameReceiver s (suSample s) := by
  unfold suSample
  split <;> constructor <;> rfl

theorem wait1Observe_sameReceiver (s : State) : SameReceiver s (wait1Observe s) := by
  unfold wait1Observe
  split <;> constructor <;> rfl

theorem gateObserve_sameReceiver (s : State) : SameReceiver s (gateObserve s) := by
  unfold gateObserve
  split <;> constructor <;> rfl

theorem checkDeq_sameReceiver {s t : State} (h : checkDeq s = .next t) : SameReceiver s t := by
  obtain ⟨-, rfl⟩ | ⟨k, rest, -, -, -, rfl⟩ := checkDeq_next h <;> constructor <;> rfl

theorem xmitByte_sameReceiver {s t : State} (h : xmitByte s = .next t) : SameReceiver s t := by
  obtain ⟨b, -, rfl⟩ := xmitByte_next h
  split <;> constructor <;> rfl

/-- TXF's turn works on its own registers, TXQ and line-out (R160-R168). -/
theorem txfRow_keepsOrder {s t : State} (hs : Undisturbed s) (h : meaning (txfRow s) s = .next t) :
    keepsOrder s t := by
  have hrow := senderRow_of_endInv hs.inv
  cases hst : s.txState <;> simp only [senderRow, txfRow, hst] at hrow h
  case ctrl =>
    cases h
    exact hs.keepsOrder_of_sender (ctrlEmit_senderStep hs.inv hst hs.drained)
      (ctrlEmit_sameReceiver s)
  case suWait =>
    obtain ⟨hidx, -⟩ := hrow
    split at h <;> cases h
    · exact hs.keepsOrder_of_sender (suSample_senderStep hst hidx hs.drained)
        (suSample_sameReceiver s)
    · exact hs.keepsOrder_of_sender (suTick_senderStep hs.drained) (by constructor <;> rfl)
  case check =>
    obtain ⟨hidx, -⟩ := hrow
    split at h
    · cases h
      exact hs.keepsOrder_of_sender (checkEmpty_senderStep hst hidx hs.drained)
        (by constructor <;> rfl)
    · exact hs.keepsOrder_of_sender (checkDeq_senderStep hst hidx hs.drained h)
        (checkDeq_sameReceiver h)
  case wait1 =>
    obtain ⟨hidx, -⟩ := hrow
    cases h
    exact hs.keepsOrder_of_sender (wait1Observe_senderStep hst hidx hs.drained)
      (wait1Observe_sameReceiver s)
  case gate =>
    obtain ⟨hidx, -⟩ := hrow
    cases h
    exact hs.keepsOrder_of_sender (gateObserve_senderStep hst hidx hs.drained)
      (gateObserve_sameReceiver s)
  case xmit =>
    exact hs.keepsOrder_of_sender (xmitByte_senderStep hs.inv hst hs.drained h)
      (xmitByte_sameReceiver h)

theorem perform_txf_keepsOrder {s t : State} (hs : Undisturbed s) (h : perform .txf s = .next t) :
    keepsOrder s t := by
  rw [perform_txf_eq (running_iff.1 hs.runs).1] at h
  obtain rfl | hmeaning := exec_next h
  · exact hs.waits
  · exact txfRow_keepsOrder hs hmeaning

/-! ### RXF -/

theorem lenBad_sameSender (b : Byte) (s : State) : SameSender s (lenBad b s) := by
  unfold lenBad
  split <;> constructor <;> rfl

theorem cksumBad_sameSender (b : Byte) (s : State) : SameSender s (cksumBad b s) := by
  unfold cksumBad
  split <;> constructor <;> rfl

theorem payloadByte_sameSender {s t : State} {b : Byte} (h : payloadByte b s = .next t) :
    SameSender s t := by
  obtain ⟨-, rfl⟩ := payloadByte_next h
  constructor <;> rfl

theorem pushFrame_sameSender {s t : State} (h : pushFrame s = .next t) : SameSender s t := by
  obtain ⟨-, rfl⟩ := pushFrame_next h
  constructor <;> rfl

theorem receiveByte_sameSender {s t : State} {b : Byte} (h : receiveByte b s = .next t) :
    SameSender s t := by
  obtain ⟨-, rfl⟩ | ⟨-, hrow⟩ := receiveByte_next h
  · exact .refl _
  obtain ⟨-, -, rfl⟩ | ⟨-, -, rfl⟩ | ⟨-, -, rfl⟩ | ⟨-, -, -, rfl⟩ | ⟨-, -, -, rfl⟩ | ⟨-, hstored⟩ |
    ⟨-, -, rfl⟩ | ⟨-, -, rfl⟩ | ⟨-, rfl⟩ := hrow
  · constructor <;> rfl
  · constructor <;> rfl
  · constructor <;> rfl
  · constructor <;> rfl
  · exact lenBad_sameSender b s
  · exact payloadByte_sameSender hstored
  · constructor <;> rfl
  · exact cksumBad_sameSender b s
  · exact .refl _

/-- RXF's turn reads a byte of the line, or pushes the frame it holds (R140-R148). -/
theorem perform_rxf_keepsOrder {s t : State} (hs : Undisturbed s) (h : perform .rxf s = .next t) :
    keepsOrder s t := by
  have hrst := (running_iff.1 hs.runs).1
  by_cases hst : s.rxState = .push
  · rw [perform_rxf_of_push hrst hst] at h
    obtain rfl | hpush := exec_next h
    · exact hs.waits
    · exact hs.keepsOrder_of_receiver (pushFrame_sameSender hpush)
        (pushFrame_receiverStep hs.runs hst hs.noBad hpush)
  · cases hline : s.lineIn with
    | nil =>
      have hcode : fetchCode .rxf s = none := by simp [fetchCode, hrst, rxfCode, hst, hline]
      rw [perform, hcode] at h
      cases h
      exact hs.waits
    | cons b rest =>
      rw [perform_rxf_eq_receiveByte hs.runs hst hline] at h
      exact hs.keepsOrder_of_receiver (receiveByte_sameSender h)
        (receiveByte_receiverStep hs.inv hs.runs hst hline hs.noBad h)

/-! ### The host channels -/

/-- The operation of a fire vector (R78, R191). -/
theorem decodeHost_ok {c : Ctx} {op : BitVec 2} {t : TxReq} {i : Instr}
    (h : decodeHost c op t = .ok i) :
    (∃ rxFire, sendCheck c.mtu t = .accepted ∧ i = .send rxFire t) ∨
      (∃ rxFire, sendCheck c.mtu t ≠ .accepted ∧ i = .sendReject rxFire t) ∨ i = .recv := by
  unfold decodeHost at h
  split at h
  · split at h
    next hcheck => cases h; exact .inl ⟨_, hcheck, rfl⟩
    next hcheck => cases h; exact .inr (.inl ⟨_, hcheck, rfl⟩)
  · split at h <;> cases h
    exact .inr (.inr rfl)

/-- What a turn of the host channels can do (R78). -/
theorem perform_host_next {s t : State} {who : BitVec 2} (hrst : s.rst = false)
    (h : perform (.host who) s = .next t) :
    t = s ∨ (∃ rxFire, deliverIf rxFire (acceptPacket s.txChan s) = .next t) ∨
      (∃ rxFire, sendCheck s.cfg.mtu s.txChan ≠ .accepted ∧
        deliverIf rxFire (rejectPacket s.txChan s) = .next t) ∨ deliverHead s = .next t := by
  obtain henv | ⟨-, rfl | ⟨code, i, hcode, hdecode, hexec⟩⟩ := perform_next h
  · cases henv
  · exact .inl rfl
  have hhost : decode (selectCtx s) code =
      decodeHost (selectCtx s) (fireVector s &&& who) s.txChan := by
    simp only [fetchCode, hrst, hostCode, Bool.false_eq_true, if_false] at hcode
    split at hcode <;> cases hcode
    rfl
  obtain rfl | hmeaning := exec_next hexec
  · exact .inl rfl
  obtain ⟨rxFire, -, rfl⟩ | ⟨rxFire, hcheck, rfl⟩ | rfl := decodeHost_ok (hhost ▸ hdecode)
  · exact .inr (.inl ⟨rxFire, hmeaning⟩)
  · exact .inr (.inr (.inl ⟨rxFire, hcheck, hmeaning⟩))
  · exact .inr (.inr (.inr hmeaning))

theorem deliverHead_sameSender {s t : State} (h : deliverHead s = .next t) : SameSender s t := by
  obtain ⟨-, rfl⟩ | ⟨f, rest, k, -, -, rfl⟩ := deliverHead_next h <;> constructor <;> rfl

/-- The RX channel's transfer beside a SEND is a step of the other direction (R197). -/
theorem keepsOrder_deliverIf {s u t : State} {rxFire : Bool} (hs : Undisturbed s)
    (hsend : SenderStep s u) (hsame : SameReceiver s u) (h : deliverIf rxFire u = .next t) :
    keepsOrder s t := by
  obtain ⟨-, rfl⟩ | ⟨-, hdeliver⟩ := deliverIf_next h
  · exact hs.keepsOrder_of_sender hsend hsame
  · have hrun : running u = true := by rw [hsame.running_eq, hs.runs]
    have hgood : Token.bad ∉ lineTokens u := by rw [hsame.lineTokens_eq]; exact hs.noBad
    exact ⟨hsend.trans_same (deliverHead_sameSender hdeliver),
      hsame.trans_step (deliverHead_receiverStep hrun hgood hdeliver)⟩

/-- An accepted packet is the last of those outgoing (R192). -/
theorem acceptPacket_senderStep {s : State} (r : TxReq) (hout : s.lineOut = []) :
    SenderStep s (acceptPacket r s) := by
  have hsent : newlySent s (acceptPacket r s) = [storedPacket r s] := by
    simp [newlySent, acceptPacket]
  refine senderStep_silent hout rfl ?_
  rw [hsent, outgoing, List.append_assoc]
  rfl

theorem rejectPacket_senderStep {s : State} {r : TxReq} (hcheck : sendCheck s.cfg.mtu r ≠ .accepted)
    (hout : s.lineOut = []) : SenderStep s (rejectPacket r s) := by
  have hsent : newlySent s (rejectPacket r s) = [] := by
    simp [newlySent, rejectPacket, hcheck]
  refine senderStep_silent hout rfl ?_
  rw [hsent, List.append_nil]
  rfl

theorem perform_host_keepsOrder {s t : State} {who : BitVec 2} (hs : Undisturbed s)
    (h : perform (.host who) s = .next t) : keepsOrder s t := by
  obtain rfl | ⟨rxFire, h⟩ | ⟨rxFire, hcheck, h⟩ | h :=
    perform_host_next (running_iff.1 hs.runs).1 h
  · exact hs.waits
  · exact keepsOrder_deliverIf hs (acceptPacket_senderStep _ hs.drained) (by constructor <;> rfl) h
  · exact keepsOrder_deliverIf hs (rejectPacket_senderStep hcheck hs.drained)
      (by constructor <;> rfl) h
  · exact hs.keepsOrder_of_receiver (deliverHead_sameSender h)
      (deliverHead_receiverStep hs.runs hs.noBad h)

/-- Every turn of an ideal line (R210). -/
theorem perform_keepsOrder {s t : State} {turn : Turn} (hs : Undisturbed s)
    (hturn : linkTurn turn = true) (h : perform turn s = .next t) : keepsOrder s t := by
  cases turn
  case rxf => exact perform_rxf_keepsOrder hs h
  case txf => exact perform_txf_keepsOrder hs h
  case host => exact perform_host_keepsOrder hs h
  case lineOutReady =>
    cases h
    exact hs.keepsOrder_of_same (by constructor <;> rfl) (by constructor <;> rfl)
  case present =>
    cases h
    exact hs.keepsOrder_of_same (by constructor <;> rfl) (by constructor <;> rfl)
  case withdraw =>
    cases h
    exact hs.keepsOrder_of_same (by constructor <;> rfl) (by constructor <;> rfl)
  case hostReady =>
    cases h
    exact hs.keepsOrder_of_same (by constructor <;> rfl) (by constructor <;> rfl)
  case frame => cases hturn
  case offer => cases hturn
  case disturb => cases hturn
  case resetPin => cases hturn
  case setPins => cases hturn

/-! ## The link -/

/-- The direction out of the end that takes the turn: its bytes join those in flight, its newly accepted packet
the packets sent. -/
theorem direction_of_senderStep {sent : List Packet} {s t peer : State} (h : direction sent s peer)
    (hstep : SenderStep s t) (hcfg : t.cfg = s.cfg) :
    direction (sent ++ newlySent s t) (drain t) (feed t.lineOut peer) := by
  obtain ⟨hmtu, hgood, hphase, horder⟩ := direction_iff.1 h
  obtain ⟨hbytesGood, hbytesPhase, hpackets⟩ := hstep
  rw [hmtu] at hbytesGood hbytesPhase hpackets
  have hfed : parse peer.cfg.mtu (phaseOf peer) (peer.lineIn ++ t.lineOut) =
      (lineTokens peer ++ (parse peer.cfg.mtu (emitPhase s) t.lineOut).1,
        (parse peer.cfg.mtu (emitPhase s) t.lineOut).2) := by
    rw [parse_append, ← hphase]
    rfl
  have htokens : lineTokens (feed t.lineOut peer) =
      lineTokens peer ++ (parse peer.cfg.mtu (emitPhase s) t.lineOut).1 := congrArg Prod.fst hfed
  have hincoming : incoming (feed t.lineOut peer) =
      incoming peer ++ tokenPackets peer.cfg.mtu (parse peer.cfg.mtu (emitPhase s) t.lineOut).1 := by
    rw [incoming, htokens, incoming, List.append_assoc, ← tokenPackets_append]
    rfl
  refine direction_iff.2 ⟨?_, ?_, ?_, ?_⟩
  · exact (congrArg Params.mtu hcfg).trans hmtu
  · rw [htokens, List.mem_append]
    exact not_or.2 ⟨hgood, hbytesGood⟩
  · exact (congrArg Prod.snd hfed).trans hbytesPhase
  · calc (sent ++ newlySent s t).map toRxPkt
        = peer.delivered ++ (incoming peer ++ (outgoing s ++ newlySent s t)).map toRxPkt := by
          simp only [List.map_append, horder, List.append_assoc]
      _ = peer.delivered ++ (incoming (feed t.lineOut peer) ++ outgoing t).map toRxPkt := by
          rw [hpackets, hincoming, List.append_assoc]

/-- The direction into the end that takes the turn; nothing of it is read from the peer's line-in. -/
theorem direction_of_receiverStep {sent : List Packet} {s t peer : State} (bytes : List Byte)
    (h : direction sent peer s) (hstep : ReceiverStep s t) (hcfg : t.cfg = s.cfg) :
    direction sent (feed bytes peer) (drain t) := by
  obtain ⟨hmtu, -, hphase, horder⟩ := direction_iff.1 h
  refine direction_iff.2 ⟨?_, hstep.noBad, ?_, ?_⟩
  · exact hmtu.trans (congrArg Params.mtu hcfg).symm
  · exact hstep.phase.trans hphase
  · calc sent.map toRxPkt
        = (s.delivered ++ (incoming s).map toRxPkt) ++ (outgoing peer).map toRxPkt := by
          rw [horder, List.map_append, List.append_assoc]
      _ = t.delivered ++ (incoming t ++ outgoing peer).map toRxPkt := by
          rw [← hstep.packets, List.map_append, List.append_assoc]

/-- The link's invariant by its ends and its directions. -/
theorem linkInv_iff {l : Link} :
    LinkInv l ↔ (EndInv l.a ∧ running l.a = true ∧ l.a.lineOut = []) ∧
      (EndInv l.b ∧ running l.b = true ∧ l.b.lineOut = []) ∧
      direction l.sentA l.a l.b ∧ direction l.sentB l.b l.a := by
  unfold LinkInv direction
  constructor
  · rintro ⟨ha, hb, hra, hrb, hoa, hob, hmtu, hab, hba, hsa, hsb⟩
    exact ⟨⟨ha, hra, hoa⟩, ⟨hb, hrb, hob⟩, ⟨hmtu, hab, hsa⟩, ⟨hmtu.symm, hba, hsb⟩⟩
  · rintro ⟨⟨ha, hra, hoa⟩, ⟨hb, hrb, hob⟩, ⟨hmtu, hab, hsa⟩, ⟨-, hba, hsb⟩⟩
    exact ⟨ha, hb, hra, hrb, hoa, hob, hmtu, hab, hba, hsa, hsb⟩

/-- The same link, its ends named the other way round. -/
def swapLink (l : Link) : Link := { a := l.b, b := l.a, sentA := l.sentB, sentB := l.sentA }

theorem linkInv_swapLink {l : Link} (h : LinkInv l) : LinkInv (swapLink l) := by
  obtain ⟨ha, hb, hab, hba⟩ := linkInv_iff.1 h
  exact linkInv_iff.2 ⟨hb, ha, hba, hab⟩

theorem linkStep_b_eq (t : Turn) (l : Link) :
    linkStep .b t l = (linkStep .a t (swapLink l)).map swapLink := by
  simp only [linkStep, swapLink]
  cases perform t (tick l.b) <;> rfl

/-- A turn of end A goes on and keeps the link's invariant. -/
theorem linkStep_a_keeps_linkInv {l : Link} {t : Turn} (h : LinkInv l) (hturn : linkTurn t = true) :
    ∃ l', linkStep .a t l = some l' ∧ LinkInv l' := by
  obtain ⟨⟨ha, hra, hoa⟩, ⟨hb, hrb, hob⟩, hab, hba⟩ := linkInv_iff.1 h
  obtain ⟨a', hperform, ha'⟩ := perform_endsInInv t (endInv_tick.2 ha)
  have hgood : Token.bad ∉ lineTokens l.a := (direction_iff.1 hba).2.1
  obtain ⟨hsend, hrecv⟩ := perform_keepsOrder (s := tick l.a) ⟨ha, hra, hoa, hgood⟩ hturn hperform
  have hcfg : a'.cfg = l.a.cfg := by
    obtain ⟨hrst, -⟩ | ⟨hcfg, -⟩ := perform_reset_or_noReset hperform
    · simp [running_of_rst (s := l.a) hrst] at hra
    · exact hcfg
  refine ⟨{ l with a := drain a', b := feed a'.lineOut l.b, sentA := l.sentA ++ newlySent l.a a' },
    by simp only [linkStep, hperform],
    linkInv_iff.2 ⟨⟨ha', hrecv.goesOn, rfl⟩, ⟨hb, hrb, hob⟩, ?_, ?_⟩⟩
  · exact direction_of_senderStep (s := tick l.a) hab hsend hcfg
  · exact direction_of_receiverStep (s := tick l.a) _ hba hrecv hcfg

/-! ## A DATA frame whose checksum byte is wrong -/

theorem andThen_assoc (r : Result) (j k : State → Result) :
    andThen (andThen r j) k = andThen r fun t => andThen (j t) k := by
  cases r <;> rfl

theorem receiveBytes_append (xs ys : List Byte) (s : State) :
    receiveBytes (xs ++ ys) s = andThen (receiveBytes xs s) (receiveBytes ys) := by
  induction xs generalizing s with
  | nil => rfl
  | cons x xs ih =>
    rw [List.cons_append, receiveBytes_cons, receiveBytes_cons, andThen_assoc]
    exact andThen_congr fun t _ => ih t

theorem receiveBytes_singleton (b : Byte) (s : State) : receiveBytes [b] s = receiveByte b s := by
  rw [receiveBytes_cons]
  cases receiveByte b s <;> rfl

/-- RXF after a payload byte that is not the last (R145). -/
def afterByte (b : Byte) (s : State) : State :=
  { s with
    lineIn := s.lineIn.tail
    rxBuf := s.rxBuf.set s.rxCnt.toNat b
    rxAcc := s.rxAcc ^^^ b
    rxCnt := s.rxCnt + 1
    rxState := .payload }

/-- RXF after the rest `p` of a frame's payload (R145). -/
def afterPayload (p : List Byte) (s : State) : State :=
  { s with
    lineIn := s.lineIn.drop p.length
    rxBuf := s.rxBuf.take s.rxCnt.toNat ++ p ++ s.rxBuf.drop s.rxLen.toNat
    rxAcc := s.rxAcc ^^^ cksum p
    rxCnt := s.rxLen
    rxState := .cksum }

theorem payloadByte_of_more {s : State} {b : Byte} (hroom : s.rxCnt.toNat < s.rxBuf.length)
    (hmore : s.rxCnt + 1 ≠ s.rxLen) : payloadByte b s = .next (afterByte b s) := by
  rw [payloadByte, if_pos hroom, if_neg hmore]
  rfl

theorem payloadByte_of_last {s : State} {b : Byte} (hroom : s.rxCnt.toNat < s.rxBuf.length)
    (hcnt : (s.rxCnt + 1).toNat = s.rxCnt.toNat + 1) (hlast : s.rxCnt + 1 = s.rxLen) :
    payloadByte b s = .next (afterPayload [b] s) := by
  have hbuf : s.rxBuf.set s.rxCnt.toNat b =
      s.rxBuf.take s.rxCnt.toNat ++ [b] ++ s.rxBuf.drop s.rxLen.toNat := by
    rw [← hlast, hcnt, List.set_eq_take_append_cons_drop, if_pos hroom, List.append_assoc]
    rfl
  rw [payloadByte, if_pos hroom, if_pos hlast, hbuf, hlast]
  simp [afterPayload, takeByte]

theorem afterPayload_afterByte {s : State} {b : Byte} (p : List Byte)
    (hroom : s.rxCnt.toNat < s.rxBuf.length) (hcnt : (s.rxCnt + 1).toNat = s.rxCnt.toNat + 1)
    (hmore : s.rxCnt.toNat < s.rxLen.toNat) :
    afterPayload p (afterByte b s) = afterPayload (b :: p) s := by
  simp only [afterPayload, afterByte, hcnt, take_set_succ b hroom, List.drop_set_of_lt hmore]
  simp [BitVec.xor_assoc]

/-- The bytes of a payload are stored in order, and counted until the length is reached (R145). -/
theorem receiveBytes_payload {p : List Byte} {s : State} (hrun : running s = true)
    (hst : s.rxState = .payload) (hne : p ≠ [])
    (hlen : s.rxCnt.toNat + p.length = s.rxLen.toNat) (hroom : s.rxLen.toNat ≤ s.rxBuf.length) :
    receiveBytes p s = .next (afterPayload p s) := by
  induction p generalizing s with
  | nil => exact absurd rfl hne
  | cons b p ih =>
    rw [List.length_cons] at hlen
    have hbound := s.rxLen.isLt
    have hcnt : (s.rxCnt + 1).toNat = s.rxCnt.toNat + 1 := by bv_omega
    have hin : s.rxCnt.toNat < s.rxBuf.length := by omega
    have hbyte : receiveByte b s = payloadByte b s := by simp [receiveByte, hrun, hst]
    have hend : s.rxCnt + 1 = s.rxLen ↔ p.length = 0 := by
      rw [← BitVec.toNat_inj, hcnt]
      omega
    rw [receiveBytes_cons, hbyte]
    by_cases hp : p = []
    · subst hp
      rw [payloadByte_of_last hin hcnt (hend.2 rfl)]
      rfl
    · have hmore : s.rxCnt + 1 ≠ s.rxLen := mt hend.1 (by simpa using hp)
      have hrest : (s.rxCnt + 1).toNat + p.length = s.rxLen.toNat := by omega
      rw [payloadByte_of_more hin hmore, andThen_next,
        ih (s := afterByte b s) hrun rfl hp hrest (by simpa [afterByte] using hroom),
        afterPayload_afterByte p hin hcnt (by omega)]

/-- RXF with a frame's payload `p` received and `line` at line-in, before the checksum byte (R149). -/
def awaitingCksum (len : Byte) (p line : List Byte) (s : State) : State :=
  { s with
    lineIn := line
    rxLen := len
    rxCnt := len
    rxAcc := cksumFrame len p
    rxBuf := p ++ s.rxBuf.drop len.toNat
    rxState := .cksum }

/-- A DATA frame is received up to its checksum byte whatever that byte is (R141, R143, R145). -/
theorem receiveBytes_dataFrame {s : State} {len c : Byte} {p rest : List Byte}
    (hrun : running s = true) (hst : s.rxState = .hunt) (hbuf : s.rxBuf.length = s.cfg.mtu)
    (hlegal : legalLen s.cfg.mtu len = true) (hlen : p.length = len.toNat)
    (hline : s.lineIn = dataFrame len p c ++ rest) :
    receiveBytes (dataFrame len p c) s = receiveByte c (awaitingCksum len p (c :: rest) s) := by
  have hstart := receiveByte_start hrun hst
  have hlength := receiveByte_legalLen (s := huntStart s) hrun rfl hlegal
  obtain ⟨hmin, hmax⟩ := legalLen_iff.1 hlegal
  have hpayload : receiveBytes p (lenData len (huntStart s)) =
      .next (afterPayload p (lenData len (huntStart s))) :=
    receiveBytes_payload hrun rfl (List.ne_nil_of_length_pos (by omega)) (by simp [lenData, hlen])
      (by simp [lenData, huntStart, hbuf, hmax])
  have hstate : afterPayload p (lenData len (huntStart s)) = awaitingCksum len p (c :: rest) s := by
    simp [afterPayload, awaitingCksum, lenData, huntStart, hline, dataFrame, cksumFrame,
      BitVec.xor_assoc]
  rw [dataFrame, receiveBytes_cons, hstart, andThen_next, receiveBytes_cons, hlength, andThen_next,
    receiveBytes_append, hpayload, andThen_next, receiveBytes_singleton, hstate]

theorem receiveByte_wrongCksum {s : State} {c : Byte} (hrun : running s = true)
    (hst : s.rxState = .cksum) (hne : c ≠ s.rxAcc) : receiveByte c s = .next (cksumBad c s) := by
  simp only [receiveByte, hrun, hst, if_neg hne, if_true]

theorem cksumBad_of_fatal {s : State} {b : Byte} (h : s.cfg.errPolicy = .fatal) :
    cksumBad b s =
      raiseFault .checksum s.rxLen b s.rxAcc (setSticky stickyChecksum (takeByte s)) := by
  simp only [cksumBad, h]

theorem cksumBad_of_dropResync {s : State} {b : Byte} (h : s.cfg.errPolicy = .dropResync) :
    cksumBad b s =
      { raiseSignal .ack (setSticky stickyChecksum (takeByte s)) with rxState := .hunt } := by
  simp only [cksumBad, h]

theorem cksumBad_not_push {s : State} (b : Byte) (hst : s.rxState = .cksum) :
    (cksumBad b s).rxState ≠ .push := by
  unfold cksumBad
  split
  · simp [hst]
  · simp

theorem pushHeld_of_not_push {s : State} (h : s.rxState ≠ .push) : pushHeld s = .next s := by
  simp [pushHeld, h]

/-- A DATA frame whose checksum byte is wrong ends in the checksum error, with no push (R147). -/
theorem exec_data_wrongCksum {s : State} {len c : Byte} {p rest : List Byte}
    (hrun : running s = true) (hst : s.rxState = .hunt) (hbuf : s.rxBuf.length = s.cfg.mtu)
    (hlegal : legalLen s.cfg.mtu len = true) (hlen : p.length = len.toNat)
    (hne : c ≠ cksumFrame len p) (hline : s.lineIn = dataFrame len p c ++ rest) :
    exec (.data len p c) s = .next (cksumBad c (awaitingCksum len p (c :: rest) s)) := by
  have henabled : enabled (.data len p c) s = true := by
    simp only [enabled, awaitFrame_iff.2 ⟨hrun, hst, rest, hline⟩, hlegal, hlen, beq_self_eq_true,
      Bool.and_self]
  rw [exec_of_enabled henabled, meaning, receiveBytes_dataFrame hrun hst hbuf hlegal hlen hline,
    receiveByte_wrongCksum (s := awaitingCksum len p (c :: rest) s) hrun rfl hne, andThen_next,
    pushHeld_of_not_push (cksumBad_not_push c rfl)]

end Sys2Proof.Machine

open Sys2Proof Sys2Proof.Machine

/-- Settles O58: a turn of end A keeps the direction out of it and the direction into it, and a turn of end B is
one of end A with the ends named the other way round. -/
theorem anIdealLineDeliversInOrder : Obligations.AnIdealLineDeliversInOrder := by
  intro l side t hinv hturn
  cases side with
  | a => exact linkStep_a_keeps_linkInv hinv hturn
  | b =>
    obtain ⟨l', hstep, hkept⟩ := linkStep_a_keeps_linkInv (linkInv_swapLink hinv) hturn
    exact ⟨swapLink l', by rw [linkStep_b_eq, hstep, Option.map_some], linkInv_swapLink hkept⟩

/-- Settles O24: the frame is received up to its checksum byte, where the mismatch is the error of R147. -/
theorem aCorruptDataFrameIsNotDelivered : Obligations.ACorruptDataFrameIsNotDelivered := by
  intro s len c p rest hrst hfault hst hbuf hmin hmax hlen hne hline
  rw [exec_data_wrongCksum (running_iff.2 ⟨hrst, hfault⟩) hst hbuf (legalLen_iff.2 ⟨hmin, hmax⟩) hlen
    hne hline]
  constructor
  · intro hpolicy
    rw [cksumBad_of_fatal (s := awaitingCksum len p (c :: rest) s) hpolicy]
    rfl
  · intro hpolicy
    rw [cksumBad_of_dropResync (s := awaitingCksum len p (c :: rest) s) hpolicy, hst]
    rfl

end

section
/-! PROOFS. The family 30_encoding: the decoder and the encoder (R70, R77, R78, R86, R87), what the turns of
RXF, TXF and the host channels run and transfer (R78-R82), and the two-byte and DATA frames received whole. -/

namespace Sys2Proof

/-! ## Decoding by format -/

theorem decode_rxf_rxfWord (c : Ctx) (st : BitVec 3) (b : Byte) :
    decode c (.rxf (rxfWord st b)) = decodeRxf c st b := by
  simp only [decode, Machine.rxfWord_state, Machine.rxfWord_byte]

theorem decodeRxf_hunt (c : Ctx) (b : Byte) : decodeRxf c (rxCode .hunt) b =
    .ok (if b = startByte then .rxHuntStart else .rxHuntSkip b) := rfl

theorem decodeRxf_len (c : Ctx) (b : Byte) : decodeRxf c (rxCode .len) b =
    .ok (if b = 0 then .rxLenCtrl else if legalLen c.mtu b then .rxLenData b else .rxLenBad b) :=
  rfl

theorem decodeRxf_cksum (c : Ctx) (b : Byte) : decodeRxf c (rxCode .cksum) b =
    .ok (if b = c.rxAcc then .rxCksumOk b else .rxCksumBad b) := rfl

theorem decodeTxf_suWait (c : Ctx) : decodeTxf c (txCode .suWait) =
    .ok (if c.timerZero then .txSuSample else .txSuTick) := rfl

theorem decodeTxf_check (c : Ctx) : decodeTxf c (txCode .check) =
    .ok (if c.txqEmpty then .txCheckEmpty else .txCheckDeq) := rfl

theorem fireOp_getLsbD_zero (rxFire txFire : Bool) :
    (fireOp rxFire txFire).getLsbD 0 = txFire := by
  cases rxFire <;> cases txFire <;> rfl

theorem fireOp_getLsbD_one (rxFire txFire : Bool) :
    (fireOp rxFire txFire).getLsbD 1 = rxFire := by
  cases rxFire <;> cases txFire <;> rfl

theorem decodeHost_fireOp_true (c : Ctx) (rxFire : Bool) (t : TxReq) :
    decodeHost c (fireOp rxFire true) t =
      .ok (if sendCheck c.mtu t = .accepted then .send rxFire t else .sendReject rxFire t) := by
  rw [decodeHost, fireOp_getLsbD_zero, fireOp_getLsbD_one, if_pos rfl]

theorem decodeHost_recv (c : Ctx) (t : TxReq) : decodeHost c (fireOp true false) t = .ok .recv :=
  rfl

/-! ## Frames on the line -/

theorem legalLen_one (mtu : Nat) : legalLen mtu 1 = false := by
  simp [legalLen]

theorem legalLen_of_mtu_lt {mtu : Nat} {b : Byte} (h : mtu < b.toNat) : legalLen mtu b = false := by
  simp [legalLen, h]

theorem ne_zero_of_mtu_lt {mtu : Nat} {b : Byte} (h : mtu < b.toNat) : b ≠ 0 := by
  rintro rfl
  simp at h

theorem decodeFrame_ctrl (mtu : Nat) (rest : List Byte) :
    decodeFrame mtu (startByte :: 0 :: rest) = .ok (.ctrl, rest) := rfl

theorem decodeFrame_dataFrame {mtu : Nat} {len : Byte} {p : List Byte} (c : Byte) (rest : List Byte)
    (hlegal : legalLen mtu len = true) (hlen : p.length = len.toNat) :
    decodeFrame mtu (dataFrame len p c ++ rest) = .ok (.data len p c, rest) := by
  have htake : (p ++ c :: rest).take len.toNat = p := by rw [← hlen, List.take_left]
  have hdrop : (p ++ c :: rest).drop len.toNat = c :: rest := by rw [← hlen, List.drop_left]
  have hline : dataFrame len p c ++ rest = startByte :: len :: (p ++ c :: rest) := by
    simp [dataFrame]
  simp only [hline, decodeFrame, ne_eq, not_true, if_false,
    if_neg (Machine.ne_zero_of_legalLen hlegal), hlegal, if_true, hdrop, htake]

/-- A length byte of no other class is a length error, short or long (R77). -/
theorem decodeFrame_badlen {mtu : Nat} {len : Byte} (rest : List Byte) (hne : len ≠ 0)
    (hillegal : legalLen mtu len = false) :
    decodeFrame mtu (startByte :: len :: rest) =
      .ok (if len.toNat < hdrSize then .badlenShort else .badlenLong len, rest) := by
  simp only [decodeFrame, ne_eq, not_true, if_false, if_neg hne, hillegal, Bool.false_eq_true]
  split <;> rfl

theorem decodeFrame_badlenShort (mtu : Nat) (rest : List Byte) :
    decodeFrame mtu (startByte :: 1 :: rest) = .ok (.badlenShort, rest) := by
  rw [decodeFrame_badlen rest (by decide) (legalLen_one mtu), if_pos (by decide)]

theorem decodeFrame_badlenLong {mtu : Nat} {len : Byte} (rest : List Byte) (hmtu : hdrSize ≤ mtu)
    (hlong : mtu < len.toNat) :
    decodeFrame mtu (startByte :: len :: rest) = .ok (.badlenLong len, rest) := by
  rw [decodeFrame_badlen rest (ne_zero_of_mtu_lt hlong) (legalLen_of_mtu_lt hlong),
    if_neg (by omega)]

/-- The bytes of a frame row decode to its instruction, and the rest of the line is left (R70, R77). -/
theorem decodeFrame_encode {c : Ctx} {i : Instr} {bytes : List Byte} (rest : List Byte)
    (hc : c.ok = true) (hwf : i.wf c = true) (hcode : encode i = .wire bytes) :
    decodeFrame c.mtu (bytes ++ rest) = .ok (i, rest) := by
  cases i <;> cases hcode
  case ctrl => exact decodeFrame_ctrl c.mtu rest
  case data len p k =>
    obtain ⟨hlegal, hlen⟩ : legalLen c.mtu len = true ∧ p.length = len.toNat := by
      simpa [Instr.wf] using hwf
    exact decodeFrame_dataFrame k rest hlegal hlen
  case badlenShort => exact decodeFrame_badlenShort c.mtu rest
  case badlenLong len =>
    obtain ⟨hmtu, -⟩ : hdrSize ≤ c.mtu ∧ c.mtu ≤ 255 := by simpa [Ctx.ok] using hc
    exact decodeFrame_badlenLong rest hmtu (of_decide_eq_true hwf)

theorem decode_wire_of_decodeFrame {c : Ctx} {bytes rest : List Byte} {i : Instr}
    (h : decodeFrame c.mtu bytes = .ok (i, rest)) : decode c (.wire bytes) = .ok i := by
  simp only [decode, h]

theorem decode_encode_of_wire {c : Ctx} {i : Instr} {bytes : List Byte} (hc : c.ok = true)
    (hwf : i.wf c = true) (hcode : encode i = .wire bytes) : decode c (encode i) = .ok i := by
  rw [hcode, decode_wire_of_decodeFrame (rest := [])]
  simpa using decodeFrame_encode [] hc hwf hcode

/-! ## Decoding an encoded instruction -/

/-- Every row's word decodes to the row that its condition selects (R70, R78, R86, R87). -/
theorem decode_encode {c : Ctx} {i : Instr} (hc : c.ok = true) (hwf : i.wf c = true) :
    decode c (encode i) = .ok i := by
  cases i
  case ctrl => exact decode_encode_of_wire hc hwf rfl
  case data => exact decode_encode_of_wire hc hwf rfl
  case badlenShort => exact decode_encode_of_wire hc hwf rfl
  case badlenLong => exact decode_encode_of_wire hc hwf rfl
  case rxHuntStart => rfl
  case rxHuntSkip b =>
    have hb : b ≠ startByte := by simpa only [Instr.wf, bne_iff_ne] using hwf
    rw [encode, decode_rxf_rxfWord, decodeRxf_hunt, if_neg hb]
  case rxLenCtrl => rfl
  case rxLenData b =>
    have hlegal : legalLen c.mtu b = true := hwf
    rw [encode, decode_rxf_rxfWord, decodeRxf_len, if_neg (Machine.ne_zero_of_legalLen hlegal),
      if_pos hlegal]
  case rxLenBad b =>
    obtain ⟨hne, hillegal⟩ : b ≠ 0 ∧ legalLen c.mtu b = false := by simpa [Instr.wf] using hwf
    rw [encode, decode_rxf_rxfWord, decodeRxf_len, if_neg hne, hillegal]
    rfl
  case rxPayload b => rw [encode, decode_rxf_rxfWord]; rfl
  case rxCksumOk b =>
    have hb : b = c.rxAcc := by simpa only [Instr.wf, beq_iff_eq] using hwf
    rw [encode, decode_rxf_rxfWord, decodeRxf_cksum, if_pos hb]
  case rxCksumBad b =>
    have hb : b ≠ c.rxAcc := by simpa only [Instr.wf, bne_iff_ne] using hwf
    rw [encode, decode_rxf_rxfWord, decodeRxf_cksum, if_neg hb]
  case rxPush => rfl
  case txCtrl => rfl
  case txSuTick =>
    have htimer : c.timerZero = false := by simpa only [Instr.wf, Bool.not_eq_true'] using hwf
    rw [encode, decode, decodeTxf_suWait, htimer]
    rfl
  case txSuSample =>
    have htimer : c.timerZero = true := hwf
    rw [encode, decode, decodeTxf_suWait, if_pos htimer]
  case txCheckEmpty =>
    have hempty : c.txqEmpty = true := hwf
    rw [encode, decode, decodeTxf_check, if_pos hempty]
  case txCheckDeq =>
    have hempty : c.txqEmpty = false := by simpa only [Instr.wf, Bool.not_eq_true'] using hwf
    rw [encode, decode, decodeTxf_check, hempty]
    rfl
  case txWait1 => rfl
  case txGate => rfl
  case txXmit => rfl
  case send rxFire t =>
    have hcheck : sendCheck c.mtu t = .accepted := by simpa only [Instr.wf, beq_iff_eq] using hwf
    rw [encode, decode, decodeHost_fireOp_true, if_pos hcheck]
  case sendReject rxFire t =>
    have hcheck : sendCheck c.mtu t ≠ .accepted := by simpa only [Instr.wf, bne_iff_ne] using hwf
    rw [encode, decode, decodeHost_fireOp_true, if_neg hcheck]
  case recv => exact decodeHost_recv c TxReq.zero
  case init => rfl

/-! ## The decoder answers well-formed instructions -/

/-- The length classes of R77: a frame's instruction meets the condition of its row. -/
theorem wf_of_decodeFrame {c : Ctx} {bytes rest : List Byte} {i : Instr}
    (h : decodeFrame c.mtu bytes = .ok (i, rest)) : i.wf c = true := by
  unfold decodeFrame at h
  split at h
  case h_1 => cases h
  case h_2 => split at h <;> cases h
  case h_3 l line =>
    split at h
    · cases h
    split at h
    · cases h; rfl
    split at h
    next hlegal =>
      split at h
      next k _ hdrop =>
        cases h
        have hline : (line.drop l.toNat).length = (k :: rest).length := congrArg _ hdrop
        rw [List.length_drop, List.length_cons] at hline
        simp only [Instr.wf, hlegal, Bool.true_and, List.length_take, beq_iff_eq]
        omega
      next => cases h
    next hillegal =>
      split at h
      · cases h; rfl
      next hmin =>
        cases h
        simp only [Instr.wf, decide_eq_true_eq]
        rw [Machine.legalLen_iff] at hillegal
        simp only [hdrSize] at hmin
        omega

/-- The rows of R86. -/
theorem wf_of_decodeRxf {c : Ctx} {st : BitVec 3} {b : Byte} {i : Instr}
    (h : decodeRxf c st b = .ok i) : i.wf c = true := by
  unfold decodeRxf at h
  split at h <;> cases h
  case h_1 =>
    split
    next => rfl
    next hb => simpa only [Instr.wf, bne_iff_ne] using hb
  case h_2 =>
    split
    next => rfl
    next hb =>
      split
      next hlegal => exact hlegal
      next hillegal => simpa [Instr.wf] using And.intro hb hillegal
  case h_3 => rfl
  case h_4 =>
    split
    next hb => simpa only [Instr.wf, beq_iff_eq] using hb
    next hb => simpa only [Instr.wf, bne_iff_ne] using hb
  case h_5 => rfl

/-- The rows of R87. -/
theorem wf_of_decodeTxf {c : Ctx} {w : BitVec 3} {i : Instr} (h : decodeTxf c w = .ok i) :
    i.wf c = true := by
  unfold decodeTxf at h
  split at h <;> cases h
  case h_2 =>
    split
    next htimer => exact htimer
    next htimer => simpa [Instr.wf] using htimer
  case h_3 =>
    split
    next hempty => exact hempty
    next hempty => simpa [Instr.wf] using hempty
  all_goals rfl

/-- The outcome of SEND_CHECK tells the two SEND rows apart (R191). -/
theorem wf_of_decodeHost {c : Ctx} {op : BitVec 2} {t : TxReq} {i : Instr}
    (h : decodeHost c op t = .ok i) : i.wf c = true := by
  obtain ⟨rxFire, hcheck, rfl⟩ | ⟨rxFire, hcheck, rfl⟩ | rfl := Machine.decodeHost_ok h
  · simpa only [Instr.wf, beq_iff_eq] using hcheck
  · simpa only [Instr.wf, bne_iff_ne] using hcheck
  · rfl

theorem wf_of_decode {c : Ctx} {code : Code} {i : Instr} (h : decode c code = .ok i) :
    i.wf c = true := by
  cases code <;> simp only [decode] at h
  case wire bytes =>
    split at h <;> cases h
    next rest hframe => exact wf_of_decodeFrame hframe
  case rxf => exact wf_of_decodeRxf h
  case txf => exact wf_of_decodeTxf h
  case host => exact wf_of_decodeHost h
  case rst => split at h <;> cases h; rfl

end Sys2Proof

namespace Sys2Proof.Machine

/-! ## A clock edge during reset -/

/-- While `rst = 1` an agent's turn is a reset edge (R220). -/
theorem perform_of_rst {t : Turn} {s : State} (henv : environmentTurn t s = none)
    (hrst : s.rst = true) : perform t s = .next (initState s) := by
  have hcode : fetchCode t s = some (.rst 1) := if_pos hrst
  have henabled : enabled .init s = true := hrst
  rw [perform_of_decode henv hcode rfl, exec_of_enabled henabled, meaning]

/-! ## RXF's turn takes a byte -/

theorem perform_rxf_of_silent {s : State} (hrst : s.rst = false) (hline : s.lineIn = [])
    (hpush : s.rxState ≠ .push) : perform .rxf s = .next s := by
  have hcode : fetchCode .rxf s = none := by simp [fetchCode, hrst, rxfCode, hpush, hline]
  rw [perform, hcode]
  rfl

theorem lenBad_lineIn (b : Byte) (s : State) : (lenBad b s).lineIn = s.lineIn.tail := by
  unfold lenBad
  split <;> rfl

theorem cksumBad_lineIn (b : Byte) (s : State) : (cksumBad b s).lineIn = s.lineIn.tail := by
  unfold cksumBad
  split <;> rfl

/-- Each byte step but the one in R_PUSH takes the byte offered (R140). -/
theorem receiveByte_lineIn {b : Byte} {s t : State} (hrun : running s = true)
    (hpush : s.rxState ≠ .push) (h : receiveByte b s = .next t) : t.lineIn = s.lineIn.tail := by
  obtain ⟨hstop, -⟩ | ⟨-, hrow⟩ := receiveByte_next h
  · simp [hrun] at hstop
  obtain ⟨-, -, rfl⟩ | ⟨-, -, rfl⟩ | ⟨-, -, rfl⟩ | ⟨-, -, -, rfl⟩ | ⟨-, -, -, rfl⟩ | ⟨-, hstored⟩ |
    ⟨-, -, rfl⟩ | ⟨-, -, rfl⟩ | ⟨hst, -⟩ := hrow
  · rfl
  · rfl
  · rfl
  · rfl
  · exact lenBad_lineIn b s
  · obtain ⟨-, rfl⟩ := payloadByte_next hstored; rfl
  · rfl
  · exact cksumBad_lineIn b s
  · exact absurd hst hpush

theorem pushFrame_lineIn {s t : State} (h : pushFrame s = .next t) : t.lineIn = s.lineIn := by
  obtain ⟨-, rfl⟩ := pushFrame_next h
  rfl

/-- No byte step and no push of RXF is enabled while the block does not run (R202, R220). -/
theorem enabled_rxfRow_of_not_running (b : Byte) {s : State} (hrun : running s = false) :
    enabled (rxfRow b s) s = false := by
  have hawait (st : RxState) (b : Byte) : awaitByte st b s = false := by simp [awaitByte, hrun]
  cases hst : s.rxState <;> simp only [rxfRow, hst]
  case hunt => split <;> simp [enabled, hawait]
  case len =>
    split
    · simp [enabled, hawait]
    · split <;> simp [enabled, hawait]
  case payload => simp [enabled, hawait]
  case cksum => split <;> simp [enabled, hawait]
  case push => simp [enabled, hrun]

/-- RXF's turn takes the byte offered where `lin_ready` is 1 (R82). -/
theorem perform_rxf_lineIn {s t : State} {b : Byte} {rest : List Byte}
    (hline : s.lineIn = b :: rest) (h : perform .rxf s = .next t) :
    t.lineIn = if linReady s then rest else s.lineIn := by
  cases hrst : s.rst with
  | true =>
    rw [perform_of_rst rfl hrst] at h
    cases h
    simp [linReady, running, hrst]
  | false =>
    by_cases hpush : s.rxState = .push
    · rw [perform_rxf_of_push hrst hpush] at h
      have hready : linReady s = false := by simp [linReady, hpush]
      rw [hready]
      obtain rfl | hmeaning := exec_next h
      · rfl
      · exact pushFrame_lineIn hmeaning
    cases hrun : running s with
    | true =>
      rw [perform_rxf_eq_receiveByte hrun hpush hline] at h
      rw [receiveByte_lineIn hrun hpush h, hline]
      simp [linReady, hrun, hpush]
    | false =>
      rw [perform_rxf_of_offered hrst hpush hline,
        exec_of_waiting (enabled_rxfRow_of_not_running b hrun)] at h
      cases h
      simp [linReady, hrun]

/-! ## TXF's turn hands over a byte -/

theorem ctrlEmit_lineOut (s : State) :
    (ctrlEmit s).lineOut = s.lineOut ++ [ctrlByte s.txIdx] := by
  unfold ctrlEmit
  split <;> rfl

theorem xmitByte_lineOut {s t : State} (hrst : s.rst = false) (hst : s.txState = .xmit)
    (h : xmitByte s = .next t) : t.lineOut = s.lineOut ++ [loutData s] := by
  obtain ⟨b, hb, rfl⟩ := xmitByte_next h
  have hdata : loutData s = b := by simp [loutData, hrst, hst, hb]
  rw [hdata]
  split <;> rfl

theorem suSample_lineOut (s : State) : (suSample s).lineOut = s.lineOut := by
  unfold suSample
  split <;> rfl

theorem wait1Observe_lineOut (s : State) : (wait1Observe s).lineOut = s.lineOut := by
  unfold wait1Observe
  split <;> rfl

theorem gateObserve_lineOut (s : State) : (gateObserve s).lineOut = s.lineOut := by
  unfold gateObserve
  split <;> rfl

theorem checkDeq_lineOut {s t : State} (h : checkDeq s = .next t) : t.lineOut = s.lineOut := by
  obtain ⟨-, rfl⟩ | ⟨k, rest, -, -, -, rfl⟩ := checkDeq_next h <;> rfl

/-- TXF's steps outside T_CTRL and T_XMIT hand over no byte (R162-R167). -/
theorem meaning_txfRow_lineOut {s t : State} (hctrl : s.txState ≠ .ctrl) (hxmit : s.txState ≠ .xmit)
    (h : meaning (txfRow s) s = .next t) : t.lineOut = s.lineOut := by
  cases hst : s.txState <;> simp only [txfRow, hst] at h
  case ctrl => exact absurd hst hctrl
  case suWait =>
    split at h <;> cases h
    · exact suSample_lineOut s
    · rfl
  case check =>
    split at h
    · cases h; rfl
    · exact checkDeq_lineOut h
  case wait1 => cases h; exact wait1Observe_lineOut s
  case gate => cases h; exact gateObserve_lineOut s
  case xmit => exact absurd hst hxmit

/-- A row that is enabled where a byte fires, and emits `lout_data`, hands over what the ports show (R82). -/
theorem exec_lineOut_of_emits {i : Instr} {s t : State}
    (hfires : enabled i s = (loutValid s && s.loutReady))
    (hemits : ∀ u, meaning i s = .next u → u.lineOut = s.lineOut ++ [loutData s])
    (h : exec i s = .next t) :
    t.lineOut = s.lineOut ++ (if loutValid s && s.loutReady then [loutData s] else []) := by
  rw [exec_eq_whenEnabled] at h
  obtain ⟨henabled, hmeaning⟩ | ⟨hwaits, rfl⟩ := whenEnabled_eq_next.1 h
  · rw [← hfires, henabled, hemits t hmeaning, if_pos rfl]
  · simp [← hfires, hwaits]

/-- TXF's turn hands over `lout_data` where `lout_valid` and `lout_ready` are 1 (R82). -/
theorem perform_txf_lineOut {s t : State} (h : perform .txf s = .next t) :
    t.lineOut = s.lineOut ++ (if loutValid s && s.loutReady then [loutData s] else []) := by
  cases hrst : s.rst with
  | true =>
    rw [perform_of_rst rfl hrst] at h
    cases h
    simp [loutValid, running, hrst]
  | false =>
    rw [perform_txf_eq hrst] at h
    by_cases hctrl : s.txState = .ctrl
    · have hrow : txfRow s = .txCtrl := by simp only [txfRow, hctrl]
      have hdata : loutData s = ctrlByte s.txIdx := by simp [loutData, hrst, hctrl]
      refine exec_lineOut_of_emits (by simp [enabled, awaitTx, loutValid, hctrl]) ?_ (hrow ▸ h)
      rintro u ⟨⟩
      rw [ctrlEmit_lineOut, hdata]
    by_cases hxmit : s.txState = .xmit
    · have hrow : txfRow s = .txXmit := by simp only [txfRow, hxmit]
      refine exec_lineOut_of_emits (by simp [enabled, awaitTx, loutValid, hxmit]) ?_ (hrow ▸ h)
      exact fun _ hmeaning => xmitByte_lineOut hrst hxmit hmeaning
    have hvalid : loutValid s = false := by simp [loutValid, hctrl, hxmit]
    obtain rfl | hmeaning := exec_next h
    · simp [hvalid]
    · simp [hvalid, meaning_txfRow_lineOut hctrl hxmit hmeaning]

/-! ## The host channels' turn -/

theorem perform_host_of_no_operation {s : State} {who : BitVec 2} (hrst : s.rst = false)
    (hop : fireVector s &&& who = 0) : perform (.host who) s = .next s := by
  have hcode : fetchCode (.host who) s = none := by simp [fetchCode, hrst, hostCode, hop]
  rw [perform, hcode]
  rfl

theorem perform_host_of_decode {s : State} {who op : BitVec 2} {i : Instr} (hrst : s.rst = false)
    (hop : fireVector s &&& who = op) (hne : op ≠ 0)
    (hdecode : decodeHost (selectCtx s) op s.txChan = .ok i) : perform (.host who) s = exec i s :=
  perform_of_decode (code := .host op s.txChan) rfl
    (by simp only [fetchCode, hrst, hostCode, hop, if_neg hne, Bool.false_eq_true, if_false]) hdecode

theorem fireOp_true_ne_zero (rxFire : Bool) : fireOp rxFire true ≠ 0 := by
  cases rxFire <;> decide

theorem perform_host_of_recv {s : State} {who : BitVec 2} (hrst : s.rst = false)
    (hop : fireVector s &&& who = fireOp true false) : perform (.host who) s = exec .recv s :=
  perform_host_of_decode hrst hop (by decide) (decodeHost_recv _ _)

/-- The row of a set `tx_fire` (R191, R192, R194). -/
def sendRow (rxFire : Bool) (s : State) : Instr :=
  if sendCheck s.cfg.mtu s.txChan = .accepted then .send rxFire s.txChan
  else .sendReject rxFire s.txChan

theorem perform_host_of_send {s : State} {who : BitVec 2} {rxFire : Bool} (hrst : s.rst = false)
    (hop : fireVector s &&& who = fireOp rxFire true) :
    perform (.host who) s = exec (sendRow rxFire s) s :=
  perform_host_of_decode hrst hop (fireOp_true_ne_zero rxFire) (decodeHost_fireOp_true _ _ _)

theorem fireOp_and (a b : Bool) (who : BitVec 2) :
    fireOp a b &&& who = fireOp (who.getLsbD 1 && a) (who.getLsbD 0 && b) := by
  revert a b who
  decide

/-- The transfers of a turn: a channel fires where it has the turn, valid and ready (R78). -/
theorem fireVector_and (s : State) (who : BitVec 2) :
    fireVector s &&& who =
      fireOp (who.getLsbD 1 && (rxValid s && s.rxReady))
        (who.getLsbD 0 && (s.txValid && txReady s)) :=
  fireOp_and _ _ who

/-! ### What a transfer hands over -/

theorem rxPkt_of_head {s : State} {f : FrameRec} {rest : List FrameRec} {k : Packet}
    (hrst : s.rst = false) (hvalid : rxValid s = true) (hrxq : s.rxq = f :: rest)
    (hdecode : decodeRecord s.cfg.mtu f = some k) : rxPkt s = toRxPkt k := by
  simp [rxPkt, hrst, hvalid, hrxq, hdecode]

theorem running_of_rxValid {s : State} (h : rxValid s = true) : running s = true := by
  simp only [rxValid, Bool.and_eq_true] at h
  exact h.1

theorem deliverHead_delivered {s t : State} (hvalid : rxValid s = true)
    (h : deliverHead s = .next t) : t.delivered = s.delivered ++ [rxPkt s] := by
  obtain ⟨hempty, -⟩ | ⟨f, rest, k, hrxq, hdecode, rfl⟩ := deliverHead_next h
  · simp [rxValid, hempty] at hvalid
  · rw [rxPkt_of_head (running_iff.1 (running_of_rxValid hvalid)).1 hvalid hrxq hdecode]

theorem deliverHead_responses {s t : State} (h : deliverHead s = .next t) :
    t.responses = s.responses := by
  obtain ⟨-, rfl⟩ | ⟨f, rest, k, -, -, rfl⟩ := deliverHead_next h <;> rfl

theorem deliverIf_transfers {s t : State} {rxFire : Bool} (hvalid : rxFire = true → rxValid s = true)
    (h : deliverIf rxFire s = .next t) :
    t.responses = s.responses ∧
      t.delivered = s.delivered ++ (if rxFire then [rxPkt s] else []) := by
  obtain ⟨rfl, rfl⟩ | ⟨rfl, hdeliver⟩ := deliverIf_next h
  · simp
  · exact ⟨deliverHead_responses hdeliver, deliverHead_delivered (hvalid rfl) hdeliver⟩

theorem awaitRecv_eq (s : State) : awaitRecv s = (rxValid s && s.rxReady) := by
  simp only [awaitRecv, rxValid, Bool.and_assoc, Bool.and_comm s.rxReady]

theorem awaitRxFire_iff {rxFire : Bool} {s : State} :
    awaitRxFire rxFire s = true ↔ (rxFire = true → (rxValid s && s.rxReady) = true) := by
  cases rxFire <;> simp [awaitRxFire, awaitRecv_eq]

/-- A SEND that fires on the ports is enabled: SEND_CHECK selects its row, and TXQ has room (R192, R194). -/
theorem enabled_sendRow {s : State} {rxFire : Bool} (hvalid : s.txValid = true)
    (hready : txReady s = true) (hrx : rxFire = true → (rxValid s && s.rxReady) = true) :
    enabled (sendRow rxFire s) s = true := by
  have hfire := awaitRxFire_iff.2 hrx
  simp only [txReady, Bool.and_eq_true, Bool.or_eq_true, bne_iff_ne, Bool.not_eq_true'] at hready
  obtain ⟨hrun, hroom⟩ := hready
  unfold sendRow
  split
  next hcheck =>
    have hroom := hroom.resolve_left (not_not_intro hcheck)
    simp [enabled, awaitPresented, hrun, hvalid, hcheck, hroom, hfire]
  next hcheck => simp [enabled, awaitPresented, hrun, hvalid, hcheck, hfire]

/-- A SEND gives its response and leaves the RX channel to the transfer beside it (R197). -/
theorem meaning_sendRow (rxFire : Bool) (s : State) :
    ∃ u, meaning (sendRow rxFire s) s = deliverIf rxFire u ∧
      u.responses = s.responses ++ [sendCheck s.cfg.mtu s.txChan] ∧ u.delivered = s.delivered ∧
      rxValid u = rxValid s ∧ rxPkt u = rxPkt s := by
  unfold sendRow
  split
  next hcheck => exact ⟨_, rfl, by simp [acceptPacket, hcheck], rfl, rfl, rfl⟩
  next hcheck => exact ⟨rejectPacket s.txChan s, rfl, rfl, rfl, rfl, rfl⟩

/-- A host turn that goes on makes the transfers of its fire vector (R78-R81). -/
theorem perform_host_transfers {s t : State} {who : BitVec 2} (hrst : s.rst = false)
    {rxFire txFire : Bool} (hrx : rxFire = (who.getLsbD 1 && (rxValid s && s.rxReady)))
    (htx : txFire = (who.getLsbD 0 && (s.txValid && txReady s)))
    (h : perform (.host who) s = .next t) :
    t.responses = s.responses ++ (if txFire then [sendCheck s.cfg.mtu s.txChan] else []) ∧
      t.delivered = s.delivered ++ (if rxFire then [rxPkt s] else []) := by
  have hop : fireVector s &&& who = fireOp rxFire txFire := by rw [fireVector_and, ← hrx, ← htx]
  have hfires : rxFire = true → (rxValid s && s.rxReady) = true := by
    rw [hrx, Bool.and_eq_true]
    exact And.right
  have hvalid : rxFire = true → rxValid s = true := fun hr => (Bool.and_eq_true_iff.1 (hfires hr)).1
  cases txFire
  case true =>
    obtain ⟨-, htxValid, htxReady⟩ :
      who.getLsbD 0 = true ∧ s.txValid = true ∧ txReady s = true := by simpa using htx.symm
    rw [perform_host_of_send hrst hop,
      exec_of_enabled (enabled_sendRow htxValid htxReady hfires)] at h
    obtain ⟨u, hu, hresp, hdel, huvalid, hpkt⟩ := meaning_sendRow rxFire s
    rw [hu] at h
    obtain ⟨hr, hd⟩ := deliverIf_transfers (by rwa [huvalid]) h
    rw [hr, hd, hresp, hdel, hpkt]
    exact ⟨rfl, rfl⟩
  case false =>
    cases rxFire
    case false =>
      rw [perform_host_of_no_operation hrst hop] at h
      cases h
      simp
    case true =>
      have henabled : enabled .recv s = true := by rw [enabled, awaitRecv_eq, hfires rfl]
      rw [perform_host_of_recv hrst hop, exec_of_enabled henabled] at h
      exact ⟨by simp [deliverHead_responses h], deliverHead_delivered (hvalid rfl) h⟩

/-! ## Frames received whole -/

theorem receiveByte_illegalLen {b : Byte} {s : State} (hrun : running s = true)
    (hst : s.rxState = .len) (hne : b ≠ 0) (hillegal : legalLen s.cfg.mtu b = false) :
    receiveByte b s = .next (lenBad b s) := by
  simp only [receiveByte, hrun, hst, hillegal, if_neg hne, Bool.false_eq_true, if_true, if_false]

theorem receiveBytes_ctrl {s : State} (hrun : running s = true) (hst : s.rxState = .hunt) :
    receiveBytes [startByte, 0] s = .next (lenCtrl (huntStart s)) := by
  have hzero : receiveByte 0 (huntStart s) = .next (lenCtrl (huntStart s)) := if_pos hrun
  rw [receiveBytes_cons, receiveByte_start hrun hst, andThen_next, receiveBytes_singleton, hzero]

theorem receiveBytes_badlen {s : State} {len : Byte} (hrun : running s = true)
    (hst : s.rxState = .hunt) (hne : len ≠ 0) (hillegal : legalLen s.cfg.mtu len = false) :
    receiveBytes [startByte, len] s = .next (lenBad len (huntStart s)) := by
  have hbad := receiveByte_illegalLen (s := huntStart s) hrun rfl hne hillegal
  rw [receiveBytes_cons, receiveByte_start hrun hst, andThen_next, receiveBytes_singleton, hbad]

theorem lenBad_of_fatal {s : State} {b : Byte} (h : s.cfg.errPolicy = .fatal) :
    lenBad b s = raiseFault .length b b 0 (setSticky stickyLength (takeByte s)) := by
  simp only [lenBad, h]

theorem lenBad_of_dropResync {s : State} {b : Byte} (h : s.cfg.errPolicy = .dropResync) :
    lenBad b s = { setSticky stickyLength (takeByte s) with rxState := .hunt } := by
  simp only [lenBad, h]

/-- The instruction is the BADLEN row of the length byte `len` (R77). -/
def isBadlenRow (mtu : Nat) (len : Byte) (i : Instr) : Prop :=
  (len = 1 ∧ i = .badlenShort) ∨ (mtu < len.toNat ∧ i = .badlenLong len)

theorem exec_badlen {s : State} {len : Byte} {rest : List Byte} {i : Instr}
    (hrun : running s = true) (hst : s.rxState = .hunt) (hline : s.lineIn = startByte :: len :: rest)
    (hi : isBadlenRow s.cfg.mtu len i) : exec i s = .next (lenBad len (huntStart s)) := by
  have hframe : awaitFrame [startByte, len] s = true := awaitFrame_iff.2 ⟨hrun, hst, rest, hline⟩
  obtain ⟨rfl, rfl⟩ | ⟨hlong, rfl⟩ := hi
  · have henabled : enabled .badlenShort s = true := hframe
    rw [exec_of_enabled henabled]
    exact receiveBytes_badlen hrun hst (by decide) (legalLen_one _)
  · have henabled : enabled (.badlenLong len) s = true := by
      simp only [enabled, hframe, hlong, decide_true, Bool.and_self]
    rw [exec_of_enabled henabled]
    exact receiveBytes_badlen hrun hst (ne_zero_of_mtu_lt hlong) (legalLen_of_mtu_lt hlong)

theorem receiveByte_goodCksum {s : State} (hrun : running s = true) (hst : s.rxState = .cksum) :
    receiveByte s.rxAcc s = .next (cksumOk s) := by
  simp only [receiveByte, hrun, hst, if_true]

/-- RXF holding a validated frame with the payload `p`, with `line` at line-in (R146, R149). -/
def holdingFrame (len : Byte) (p line : List Byte) (s : State) : State :=
  { awaitingCksum len p line s with rxState := .push }

theorem receiveByte_awaitingCksum {s : State} (len : Byte) (p rest : List Byte)
    (hrun : running s = true) :
    receiveByte (cksumFrame len p) (awaitingCksum len p (cksumFrame len p :: rest) s) =
      .next (holdingFrame len p rest s) :=
  receiveByte_goodCksum (s := awaitingCksum len p (cksumFrame len p :: rest) s) hrun rfl

/-- A DATA frame with its own checksum is held, and pushed where RXQ has room (R146, R148). -/
theorem exec_data_goodCksum {s : State} {len : Byte} {p rest : List Byte}
    (hrun : running s = true) (hst : s.rxState = .hunt) (hbuf : s.rxBuf.length = s.cfg.mtu)
    (hlegal : legalLen s.cfg.mtu len = true) (hlen : p.length = len.toNat)
    (hline : s.lineIn = dataFrame len p (cksumFrame len p) ++ rest) :
    exec (.data len p (cksumFrame len p)) s =
      pushHeld (holdingFrame len p rest s) := by
  have henabled : enabled (.data len p (cksumFrame len p)) s = true := by
    simp only [enabled, awaitFrame_iff.2 ⟨hrun, hst, rest, hline⟩, hlegal, hlen, beq_self_eq_true,
      Bool.and_self]
  rw [exec_of_enabled henabled, meaning, receiveBytes_dataFrame hrun hst hbuf hlegal hlen hline,
    receiveByte_awaitingCksum len p rest hrun, andThen_next]

theorem pushHeld_of_room {s : State} (hrun : running s = true) (hst : s.rxState = .push)
    (hroom : s.rxq.length < s.cfg.rxqDepth) : pushHeld s = pushFrame s := by
  simp [pushHeld, hrun, hst, full_eq_false_iff.2 hroom]

theorem pushHeld_of_full {s : State} (hfull : s.cfg.rxqDepth ≤ s.rxq.length) :
    pushHeld s = .next s := by
  simp [pushHeld, full, hfull]

/-- The push of a payload that stands at the head of `rx_buf` (R148). -/
theorem pushFrame_of_payload {s : State} {p tail : List Byte} (hbuf : s.rxBuf = p ++ tail)
    (hlen : p.length = s.rxLen.toNat) :
    pushFrame s = .next { raiseSignal .ack (pushRxq { len := s.rxLen, payload := p } s) with
      rxState := .hunt } := by
  have htake : s.rxBuf.take s.rxLen.toNat = p := by rw [hbuf, ← hlen, List.take_left]
  have hroom : s.rxLen.toNat ≤ s.rxBuf.length := by simp [hbuf, hlen]
  rw [pushFrame, if_pos hroom, htake]

end Sys2Proof.Machine

open Sys2Proof Sys2Proof.Machine

/-- Settles O6: each row's code decodes to the row, and a frame's bytes end where the rest of the line begins. -/
theorem decodingAnEncodedInstructionGivesItBack :
    Obligations.DecodingAnEncodedInstructionGivesItBack :=
  fun _ _ hc hwf => ⟨decode_encode hc hwf, fun _ rest hcode => decodeFrame_encode rest hc hwf hcode⟩

/-- Settles O7: every branch of the decoder tests the condition of the row it answers. -/
theorem decodedInstructionsAreWellFormed : Obligations.DecodedInstructionsAreWellFormed :=
  fun _ _ _ _ hdecode => wf_of_decode hdecode

/-- Settles O8: the seven words are evaluated. -/
theorem wordsOfTheEncodingTablesDecode : Obligations.WordsOfTheEncodingTablesDecode := by
  refine ⟨?_, ?_, ?_, ?_, ?_, ?_, ?_⟩ <;> rfl

/-- Settles O11: the row is the one `rxfRow` reads off RXF's state and the byte. -/
theorem rxfTurnRunsTheSelectedStep : Obligations.RxfTurnRunsTheSelectedStep := by
  intro s hrst
  refine ⟨fun b rest hline => ?_, perform_rxf_of_push hrst, perform_rxf_of_silent hrst⟩
  have hturn (hpush : s.rxState ≠ .push) := perform_rxf_of_offered hrst hpush hline
  refine ⟨?_, ?_, ?_, ?_, ?_, ?_, ?_, ?_⟩ <;> intro hst <;>
    rw [hturn (by simp [hst])] <;> simp only [rxfRow, hst]
  · intro hb; rw [if_pos hb]
  · intro hb; rw [if_neg hb]
  · intro hb; rw [if_pos hb]
  · intro hmin hmax
    have hlegal := legalLen_iff.2 ⟨hmin, hmax⟩
    rw [if_neg (ne_zero_of_legalLen hlegal), if_pos hlegal]
  · intro hb hillegal
    rw [if_neg hb, if_neg (mt legalLen_iff.1 hillegal)]
  · intro hb; rw [if_pos hb]
  · intro hb; rw [if_neg hb]

/-- Settles O12: the row is the one `txfRow` reads off TXF's state, its timer and TXQ. -/
theorem txfTurnRunsTheSelectedStep : Obligations.TxfTurnRunsTheSelectedStep := by
  intro s hrst
  rw [perform_txf_eq hrst]
  refine ⟨?_, ?_, ?_, ?_, ?_, ?_, ?_, ?_⟩ <;> intro hst <;> simp only [txfRow, hst]
  · intro htimer; simp [htimer]
  · intro htimer; simp [htimer]
  · intro hempty; simp [hempty]
  · intro hqueued; simp [hqueued]

/-- Settles O13: the operation is decoded from the fire bits of the channels that have the turn. -/
theorem hostTurnRunsTheFireVector : Obligations.HostTurnRunsTheFireVector := by
  intro s who hrst
  refine ⟨perform_host_of_no_operation hrst, perform_host_of_recv hrst, fun rxFire hop => ?_⟩
  rw [perform_host_of_send hrst hop, sendRow]
  exact ⟨fun hcheck => by rw [if_pos hcheck], fun hcheck => by rw [if_neg hcheck]⟩

/-- Settles O46: RXF's turn is a byte step, which takes the byte, or the push, which takes none. -/
theorem aLineByteIsTakenExactlyWhenReady : Obligations.ALineByteIsTakenExactlyWhenReady :=
  fun _ _ _ _ hturn hline => perform_rxf_lineIn hline hturn

/-- Settles O47: T_CTRL and T_XMIT emit the byte the port shows, and no other state of TXF emits. -/
theorem aLineByteLeavesExactlyWhenValidAndReady :
    Obligations.ALineByteLeavesExactlyWhenValidAndReady :=
  fun _ _ hturn => perform_txf_lineOut hturn

/-- Settles O48: the fire bits select the operation, which is enabled where they are set. -/
theorem hostTransfersFireExactlyWhenValidAndReady :
    Obligations.HostTransfersFireExactlyWhenValidAndReady := by
  intro s t who hturn
  cases hrst : s.rst with
  | true =>
    rw [perform_of_rst rfl hrst] at hturn
    cases hturn
    simp [txReady, rxValid, running, hrst]
  | false => exact perform_host_transfers hrst rfl rfl hturn

/-- Settles O22: after the start byte the length byte is a CTRL sentinel or a length error (R142, R144). -/
theorem twoByteFramesAreReceivedWhole : Obligations.TwoByteFramesAreReceivedWhole := by
  intro s len rest hrst hfault hst hline
  have hrun := running_iff.2 ⟨hrst, hfault⟩
  obtain rfl : s.lineIn.tail.tail = rest := by rw [hline]; rfl
  constructor
  · rintro rfl
    have henabled : enabled .ctrl s = true := awaitFrame_iff.2 ⟨hrun, hst, _, hline⟩
    rw [exec_of_enabled henabled, meaning, receiveBytes_ctrl hrun hst, hst]
    rfl
  · intro i hi
    rw [exec_badlen hrun hst hline hi]
    constructor
    · intro hpolicy
      rw [lenBad_of_fatal (s := huntStart s) hpolicy]
      rfl
    · intro hpolicy
      rw [lenBad_of_dropResync (s := huntStart s) hpolicy, hst]
      rfl

/-- Settles O23: the checksum byte equals the accumulator, and the payload stands at the head of `rx_buf`. -/
theorem aGoodDataFrameIsReceivedWhole : Obligations.AGoodDataFrameIsReceivedWhole := by
  intro s len p rest hrst hfault hst hbuf hmin hmax hlen hline
  have hrun := running_iff.2 ⟨hrst, hfault⟩
  rw [exec_data_goodCksum hrun hst hbuf (legalLen_iff.2 ⟨hmin, hmax⟩) hlen hline]
  constructor
  · intro hroom
    rw [pushHeld_of_room (s := holdingFrame len p rest s) hrun rfl hroom,
      pushFrame_of_payload (s := holdingFrame len p rest s) rfl hlen, hst]
    rfl
  · exact fun hfull => pushHeld_of_full (s := holdingFrame len p rest s) hfull
end

section
/-! PROOFS. The family 40_codec: ENCODE's bytes and the codec's round trip (R104, R107), UNPACK and PACK (R103),
and which corruptions VALIDATE detects (R108). -/

namespace Sys2Proof.Machine

/-! ## PACK and UNPACK -/

/-- PACK writes the reserved bit 0 (R76). -/
theorem packByte0_reserved (r : Route) : (packByte0 r).getLsbD 7 = false := by
  simp [packByte0]

/-- PACK puts UNPACK's fields back at their bits, and the reserved bit is lost (R103). -/
theorem packByte0_unpack (h0 h1 : Byte) : packByte0 (unpack h0 h1) = h0 &&& 0x7F := by
  have hbits : ∀ b : Byte, packByte0 (unpack b 0) = b &&& 0x7F := by decide
  exact hbits h0

/-! ## VALIDATE and the XOR of error bytes -/

theorem validate_iff {len c : Byte} {p : List Byte} :
    validate len p c = true ↔ c = cksumFrame len p := by
  simp [validate]

theorem validate_eq_false_iff {len c : Byte} {p : List Byte} :
    validate len p c = false ↔ c ≠ cksumFrame len p := by
  simp [validate]

/-- The checksum is linear: XORing error bytes into a sequence XORs their checksum into its own. -/
theorem cksum_zipWith_xor {p e : List Byte} (h : e.length = p.length) :
    cksum (List.zipWith (· ^^^ ·) p e) = cksum p ^^^ cksum e := by
  induction p generalizing e with
  | nil => simp [List.eq_nil_of_length_eq_zero h]
  | cons b p ih =>
    cases e with
    | nil => simp at h
    | cons d e =>
      simp only [List.zipWith_cons_cons, cksum_cons, ih (Nat.succ.inj h)]
      ac_rfl

theorem cksumFrame_xor (len eLen : Byte) {p e : List Byte} (h : e.length = p.length) :
    cksumFrame (len ^^^ eLen) (List.zipWith (· ^^^ ·) p e) =
      cksumFrame len p ^^^ (eLen ^^^ cksum e) := by
  simp only [cksumFrame, cksum_cons, cksum_zipWith_xor h]
  ac_rfl

/-! ## ENCODE and DECODE -/

/-- A configuration with a given legal MTU. -/
def paramsOfMtu (mtu : Nat) (hmin : 2 ≤ mtu) (hmax : mtu ≤ 255) : Params where
  mtu := mtu
  txqDepth := 1
  rxqDepth := 1
  startupInterval := 1
  errPolicy := .fatal
  mtu_ge := hmin
  mtu_le := hmax
  txqDepth_pos := Nat.le_refl 1
  rxqDepth_pos := Nat.le_refl 1
  startupInterval_pos := Nat.le_refl 1

@[simp] theorem paramsOfMtu_mtu {mtu : Nat} (hmin : 2 ≤ mtu) (hmax : mtu ≤ 255) :
    (paramsOfMtu mtu hmin hmax).mtu = mtu := rfl

/-- The first payload byte of a packet's frame has the reserved bit 0 (R76, R104). -/
theorem framePayload_reserved (k : Packet) :
    (framePayload k)[0]?.map (·.getLsbD 7) = some false :=
  congrArg some (packByte0_reserved k.route)

end Sys2Proof.Machine

open Sys2Proof Sys2Proof.Machine

/-- Settles O50: the witnesses are the length byte, payload and checksum ENCODE frames. The codec reads only the
MTU of a configuration, so the round trip under a configuration with this MTU is the one asked for. -/
theorem decodingAnEncodedPacketGivesItBack : Obligations.DecodingAnEncodedPacketGivesItBack := by
  intro mtu k hmin hmax hfits
  have hfits' : Packet.fits (paramsOfMtu mtu hmin hmax).mtu k = true := hfits
  exact ⟨frameLen k, cksumFrame (frameLen k) (framePayload k), framePayload k, rfl, rfl,
    framePayload_reserved k, framePayload_length_eq_frameLen hfits', frameLen_toNat hfits', rfl,
    validate_iff.2 rfl, decodeRecord_frameRecord hfits'⟩

/-- Settles O51: byte 1 is `func` on both sides, so both laws are about byte 0. -/
theorem unpackInvertsPack : Obligations.UnpackInvertsPack :=
  ⟨fun r => ⟨packByte0 r, r.func, rfl, unpack_pack r, packByte0_reserved r⟩,
    fun h0 h1 => congrArg (fun b => [b, h1]) (packByte0_unpack h0 h1),
    fun _ _ => rfl⟩

/-- Settles O52: the corrupted frame's checksum is the valid one XOR the error bytes before the checksum byte, so
the checksum byte still matches exactly when its own error cancels them. -/
theorem aCorruptionIsDetectedIffItsXorIsNotZero :
    Obligations.ACorruptionIsDetectedIffItsXorIsNotZero := by
  intro len c eLen eC p e hlength hvalid
  obtain rfl := validate_iff.1 hvalid
  have hcancel : eC = eLen ^^^ cksum e ↔ eLen ^^^ cksum e ^^^ eC = 0 :=
    eq_comm.trans BitVec.xor_eq_zero_iff.symm
  rw [validate_eq_false_iff, cksumFrame_xor len eLen hlength, Ne, BitVec.xor_right_inj, hcancel]
end

section
/-! PROOFS. The family 41_queues_signals: what a step does to the queues (R120-R122), which instruction sets and
which consumes each signal (R127, R128, R131), and what the steps of one clock cycle do to `sig` (R130). The
instructions of each agent have one rule that says what they write; the three statements are read off these rules. -/

namespace Sys2Proof.Machine

open Sys2Proof.Laws.EncodingMatchesTable (Format formatOf)

/-! ## Whose instruction it is -/

/-- The format of an instruction's row of the opcode table, which names the agent that runs it (R78, R86, R87). -/
def instrFormat (i : Instr) : Format := formatOf (encode i)

theorem instrFormat_of_decodeTxf {c : Ctx} {w : BitVec 3} {i : Instr} (h : decodeTxf c w = .ok i) :
    instrFormat i = .txf := by
  unfold decodeTxf at h
  split at h <;> cases h
  case h_2 => split <;> rfl
  case h_3 => split <;> rfl
  all_goals rfl

theorem instrFormat_of_decodeRxf {c : Ctx} {st : BitVec 3} {b : Byte} {i : Instr}
    (h : decodeRxf c st b = .ok i) : instrFormat i = .rxf := by
  unfold decodeRxf at h
  split at h <;> cases h
  case h_1 => split <;> rfl
  case h_2 =>
    split
    · rfl
    · split <;> rfl
  case h_4 => split <;> rfl
  all_goals rfl

theorem instrFormat_of_decodeHost {c : Ctx} {op : BitVec 2} {r : TxReq} {i : Instr}
    (h : decodeHost c op r = .ok i) : instrFormat i = .host := by
  obtain ⟨rxFire, -, rfl⟩ | ⟨rxFire, -, rfl⟩ | rfl := decodeHost_ok h <;> rfl

theorem turnInstr_eq_some {turn : Turn} {s : State} {i : Instr} (h : turnInstr turn s = some i) :
    (∃ code, fetchCode turn s = some code ∧ decode (selectCtx s) code = .ok i) ∧
      enabled i s = true := by
  unfold turnInstr at h
  split at h
  · cases h
  next code hcode =>
    split at h
    next hdecode =>
      split at h <;> cases h
      next henabled => exact ⟨⟨code, hcode, hdecode⟩, henabled⟩
    next => cases h

theorem instrFormat_of_turnInstr_txf {s : State} {i : Instr} (hrst : s.rst = false)
    (h : turnInstr .txf s = some i) : instrFormat i = .txf := by
  obtain ⟨⟨code, hcode, hdecode⟩, -⟩ := turnInstr_eq_some h
  simp only [fetchCode, hrst, Bool.false_eq_true, if_false] at hcode
  cases hcode
  exact instrFormat_of_decodeTxf hdecode

theorem instrFormat_of_turnInstr_host {s : State} {i : Instr} {who : BitVec 2} (hrst : s.rst = false)
    (h : turnInstr (.host who) s = some i) : instrFormat i = .host := by
  obtain ⟨⟨code, hcode, hdecode⟩, -⟩ := turnInstr_eq_some h
  simp only [fetchCode, hrst, hostCode, Bool.false_eq_true, if_false] at hcode
  split at hcode <;> cases hcode
  exact instrFormat_of_decodeHost hdecode

theorem instrFormat_of_turnInstr_rxf {s : State} {i : Instr} (hrst : s.rst = false)
    (h : turnInstr .rxf s = some i) : instrFormat i = .rxf := by
  obtain ⟨⟨code, hcode, hdecode⟩, -⟩ := turnInstr_eq_some h
  simp only [fetchCode, hrst, rxfCode, Bool.false_eq_true, if_false] at hcode
  split at hcode
  · cases hcode
    rw [decode_rxf_rxfWord] at hdecode
    exact instrFormat_of_decodeRxf hdecode
  · obtain ⟨b, -, rfl⟩ := Option.map_eq_some_iff.1 hcode
    exact instrFormat_of_decodeRxf hdecode

/-! ## Masks (R130) -/

theorem sigNext_clear (sig set : BitVec 3) : sigNext sig set 0 = sigConsumed set sig :=
  BitVec.or_zero

theorem sigNext_set (sig set : BitVec 3) : sigNext sig 0 set = sig ||| set :=
  congrArg (· ||| set) (BitVec.and_allOnes : sig &&& BitVec.allOnes 3 = sig)

theorem sigNext_none (sig : BitVec 3) : sigNext sig 0 0 = sig :=
  (sigNext_set sig 0).trans BitVec.or_zero

/-- A step that only sets, after one that consumes and sets. -/
theorem sigNext_sigNext_set (sig clr set set' : BitVec 3) :
    sigNext (sigNext sig clr set) 0 set' = sigNext sig clr (set ||| set') := by
  rw [sigNext_set, sigNext, sigNext, BitVec.or_assoc]

theorem orMasks_cons (f : Instr → BitVec 3) (i : Instr) (is : List Instr) :
    orMasks f (i :: is) = f i ||| orMasks f is := rfl

theorem orMasks_eq_zero {f : Instr → BitVec 3} {is : List Instr} (h : ∀ i ∈ is, f i = 0) :
    orMasks f is = 0 := by
  induction is with
  | nil => rfl
  | cons i is ih =>
    have htail : orMasks f is = 0 := ih fun j hj => h j (List.mem_cons_of_mem i hj)
    rw [orMasks_cons, h i List.mem_cons_self, htail, BitVec.or_self]

/-- The instruction's masks give the new `sig` (R131). -/
def masksSig (i : Instr) (s t : State) : Prop :=
  t.sig = sigNext s.sig (clearMask i) (setMask s.cfg.errPolicy i)

/-- An instruction that neither sets nor consumes. -/
theorem masksSig_of_same {i : Instr} {s t : State} (hclear : clearMask i = 0)
    (hset : setMask s.cfg.errPolicy i = 0) (h : t.sig = s.sig) : masksSig i s t := by
  rw [masksSig, hclear, hset, sigNext_none, h]

theorem masksSig_of_set {i : Instr} {s t : State} {x : Signal} (hclear : clearMask i = 0)
    (hset : setMask s.cfg.errPolicy i = signalMask x) (h : t.sig = sigSet x s.sig) :
    masksSig i s t := by
  rw [masksSig, hclear, hset, sigNext_set, h, sigSet]

theorem masksSig_of_clear {i : Instr} {s t : State} {set : BitVec 3} (hclear : clearMask i = set)
    (hset : setMask s.cfg.errPolicy i = 0) (h : t.sig = sigConsumed set s.sig) : masksSig i s t := by
  rw [masksSig, hclear, hset, sigNext_clear, h]

/-! ## What TXF's instructions write -/

/-- TXF's instruction `i` takes `s` to `t`: it writes TXF's registers, `sig`, TXQ and line-out alone, changes `sig`
by its masks, and does nothing to TXQ but pop it (R160-R168). -/
structure TxfStep (i : Instr) (s t : State) : Prop where
  frame : t = { s with
    txState := t.txState, txRet := t.txRet, txIdx := t.txIdx, txTimer := t.txTimer
    txBuf := t.txBuf, txFlen := t.txFlen, sig := t.sig, txq := t.txq, lineOut := t.lineOut }
  sig : masksSig i s t
  txq : t.txq = s.txq ∨ ∃ k, s.txq = k :: t.txq

theorem ctrlEmit_txfStep (s : State) : TxfStep .txCtrl s (ctrlEmit s) := by
  unfold ctrlEmit
  split <;> exact ⟨rfl, masksSig_of_same rfl rfl rfl, .inl rfl⟩

theorem suSample_txfStep (s : State) : TxfStep .txSuSample s (suSample s) := by
  unfold suSample
  split <;> exact ⟨rfl, masksSig_of_same rfl rfl rfl, .inl rfl⟩

theorem wait1Observe_txfStep (s : State) : TxfStep .txWait1 s (wait1Observe s) := by
  unfold wait1Observe
  split <;> exact ⟨rfl, masksSig_of_clear rfl rfl rfl, .inl rfl⟩

theorem gateObserve_txfStep (s : State) : TxfStep .txGate s (gateObserve s) := by
  unfold gateObserve
  split <;> exact ⟨rfl, masksSig_of_clear rfl rfl rfl, .inl rfl⟩

theorem checkDeq_txfStep {s t : State} (h : checkDeq s = .next t) : TxfStep .txCheckDeq s t := by
  obtain ⟨-, rfl⟩ | ⟨k, rest, hq, -, -, rfl⟩ := checkDeq_next h
  · exact ⟨rfl, masksSig_of_same rfl rfl rfl, .inl rfl⟩
  · exact ⟨rfl, masksSig_of_same rfl rfl rfl, .inr ⟨k, hq⟩⟩

theorem xmitByte_txfStep {s t : State} (h : xmitByte s = .next t) : TxfStep .txXmit s t := by
  obtain ⟨b, -, rfl⟩ := xmitByte_next h
  split <;> exact ⟨rfl, masksSig_of_same rfl rfl rfl, .inl rfl⟩

theorem meaning_txfStep {i : Instr} {s t : State} (hi : instrFormat i = .txf)
    (h : meaning i s = .next t) : TxfStep i s t := by
  cases i <;> cases hi
  case txCtrl => cases h; exact ctrlEmit_txfStep s
  case txSuTick => cases h; exact ⟨rfl, masksSig_of_same rfl rfl rfl, .inl rfl⟩
  case txSuSample => cases h; exact suSample_txfStep s
  case txCheckEmpty => cases h; exact ⟨rfl, masksSig_of_same rfl rfl rfl, .inl rfl⟩
  case txCheckDeq => exact checkDeq_txfStep h
  case txWait1 => cases h; exact wait1Observe_txfStep s
  case txGate => cases h; exact gateObserve_txfStep s
  case txXmit => exact xmitByte_txfStep h

/-! ## What RXF's byte steps and push write -/

/-- RXF's instruction `i` takes `s` to `t`: it writes RXF's registers, the fault record, `sig`, RXQ and line-in
alone, changes `sig` by its masks, and RX_PUSH alone pushes into RXQ (R140-R148). -/
structure RxfStep (i : Instr) (s t : State) : Prop where
  frame : t = { s with
    rxState := t.rxState, rxLen := t.rxLen, rxCnt := t.rxCnt, rxAcc := t.rxAcc, rxBuf := t.rxBuf
    fault := t.fault, faultCause := t.faultCause, faultLen := t.faultLen, faultByte := t.faultByte
    faultCalc := t.faultCalc, errSticky := t.errSticky, sig := t.sig, rxq := t.rxq
    lineIn := t.lineIn }
  sig : masksSig i s t
  rxq : t.rxq = s.rxq ∨ i = .rxPush ∧ ∃ f, t.rxq = s.rxq ++ [f]

theorem lenBad_rxfStep (b : Byte) (s : State) : RxfStep (.rxLenBad b) s (lenBad b s) := by
  unfold lenBad
  split <;> exact ⟨rfl, masksSig_of_same rfl rfl rfl, .inl rfl⟩

theorem payloadByte_rxfStep {b : Byte} {s t : State} (h : payloadByte b s = .next t) :
    RxfStep (.rxPayload b) s t := by
  obtain ⟨-, rfl⟩ := payloadByte_next h
  exact ⟨rfl, masksSig_of_same rfl rfl rfl, .inl rfl⟩

/-- The ACK of a dropped frame is the one set that depends on the error policy (R147). -/
theorem cksumBad_rxfStep (b : Byte) (s : State) : RxfStep (.rxCksumBad b) s (cksumBad b s) := by
  cases hpolicy : s.cfg.errPolicy with
  | fatal =>
    rw [cksumBad_of_fatal hpolicy]
    exact ⟨rfl, masksSig_of_same rfl (by rw [hpolicy]; rfl) rfl, .inl rfl⟩
  | dropResync =>
    rw [cksumBad_of_dropResync hpolicy]
    exact ⟨rfl, masksSig_of_set (x := .ack) rfl (by rw [hpolicy]; rfl) rfl, .inl rfl⟩

theorem pushFrame_rxfStep {s t : State} (h : pushFrame s = .next t) : RxfStep .rxPush s t := by
  obtain ⟨-, rfl⟩ := pushFrame_next h
  exact ⟨rfl, masksSig_of_set (x := .ack) rfl rfl rfl, .inr ⟨rfl, _, rfl⟩⟩

theorem meaning_rxfStep {i : Instr} {s t : State} (hi : instrFormat i = .rxf)
    (h : meaning i s = .next t) : RxfStep i s t := by
  cases i <;> cases hi
  case rxHuntStart => cases h; exact ⟨rfl, masksSig_of_same rfl rfl rfl, .inl rfl⟩
  case rxHuntSkip => cases h; exact ⟨rfl, masksSig_of_same rfl rfl rfl, .inl rfl⟩
  case rxLenCtrl => cases h; exact ⟨rfl, masksSig_of_set (x := .ready) rfl rfl rfl, .inl rfl⟩
  case rxLenData => cases h; exact ⟨rfl, masksSig_of_same rfl rfl rfl, .inl rfl⟩
  case rxLenBad => cases h; exact lenBad_rxfStep _ s
  case rxPayload => exact payloadByte_rxfStep h
  case rxCksumOk => cases h; exact ⟨rfl, masksSig_of_same rfl rfl rfl, .inl rfl⟩
  case rxCksumBad => cases h; exact cksumBad_rxfStep _ s
  case rxPush => exact pushFrame_rxfStep h

/-! ## What the host's instructions write -/

/-- The host's instruction `i` takes `s` to `t`: it writes the queues, `sig`, `tx_valid` and the record of transfers
alone, changes `sig` by its masks, pushes into TXQ and pops RXQ (R192-R197). -/
structure HostStep (i : Instr) (s t : State) : Prop where
  frame : t = { s with
    sig := t.sig, txq := t.txq, rxq := t.rxq, txValid := t.txValid, responses := t.responses
    delivered := t.delivered }
  sig : masksSig i s t
  txq : t.txq = s.txq ∨ ∃ k, t.txq = s.txq ++ [k]
  rxq : t.rxq = s.rxq ∨ ∃ f, s.rxq = f :: t.rxq

/-- The RX channel's transfer beside a SEND, or alone, writes RXQ and the packets delivered (R195, R197). -/
theorem HostStep.then_deliverHead {i : Instr} {s u t : State} (hstep : HostStep i s u)
    (hrxq : u.rxq = s.rxq) (h : deliverHead u = .next t) : HostStep i s t := by
  obtain ⟨hframe, hsig, htxq, -⟩ := hstep
  obtain ⟨-, rfl⟩ | ⟨f, rest, k, hq, -, rfl⟩ := deliverHead_next h
  · exact ⟨hframe, hsig, htxq, .inl hrxq⟩
  · exact ⟨by rw [hframe], hsig, htxq, .inr ⟨f, hrxq ▸ hq⟩⟩

theorem HostStep.then_deliverIf {i : Instr} {s u t : State} {rxFire : Bool} (hstep : HostStep i s u)
    (hrxq : u.rxq = s.rxq) (h : deliverIf rxFire u = .next t) : HostStep i s t := by
  obtain ⟨-, rfl⟩ | ⟨-, hdeliver⟩ := deliverIf_next h
  · exact hstep
  · exact hstep.then_deliverHead hrxq hdeliver

theorem acceptPacket_hostStep (rxFire : Bool) (r : TxReq) (s : State) :
    HostStep (.send rxFire r) s (acceptPacket r s) :=
  ⟨rfl, masksSig_of_set (x := .txq) rfl rfl rfl, .inr ⟨storedPacket r s, rfl⟩, .inl rfl⟩

theorem rejectPacket_hostStep (rxFire : Bool) (r : TxReq) (s : State) :
    HostStep (.sendReject rxFire r) s (rejectPacket r s) :=
  ⟨rfl, masksSig_of_same rfl rfl rfl, .inl rfl, .inl rfl⟩

theorem hostStep_recv_refl (s : State) : HostStep .recv s s :=
  ⟨rfl, masksSig_of_same rfl rfl rfl, .inl rfl, .inl rfl⟩

theorem meaning_hostStep {i : Instr} {s t : State} (hi : instrFormat i = .host)
    (h : meaning i s = .next t) : HostStep i s t := by
  cases i <;> cases hi
  case send rxFire r => exact (acceptPacket_hostStep rxFire r s).then_deliverIf rfl h
  case sendReject rxFire r => exact (rejectPacket_hostStep rxFire r s).then_deliverIf rfl h
  case recv => exact (hostStep_recv_refl s).then_deliverHead rfl h

/-! ## The queues (R120-R122) -/

/-- What one step may do to a queue: nothing, append one element, or remove the head. -/
def fifoStep {α : Type} (q q' : List α) : Prop :=
  q' = q ∨ (∃ x, q' = q ++ [x]) ∨ ∃ x, q = x :: q'

theorem fifoStep_of_push {α : Type} {q q' : List α} (h : q' = q ∨ ∃ x, q' = q ++ [x]) :
    fifoStep q q' :=
  h.imp_right .inl

theorem fifoStep_of_pop {α : Type} {q q' : List α} (h : q' = q ∨ ∃ x, q = x :: q') :
    fifoStep q q' :=
  h.imp_right .inr

/-- Both queues stay FIFOs over a step. -/
def keepsFifos (s t : State) : Prop := fifoStep s.txq t.txq ∧ fifoStep s.rxq t.rxq

theorem keepsFifos_of_same {s t : State} (htxq : t.txq = s.txq) (hrxq : t.rxq = s.rxq) :
    keepsFifos s t :=
  ⟨.inl htxq, .inl hrxq⟩

theorem TxfStep.keepsFifos {i : Instr} {s t : State} (h : TxfStep i s t) : keepsFifos s t :=
  ⟨fifoStep_of_pop h.txq, .inl (by rw [h.frame])⟩

theorem RxfStep.keepsFifos {i : Instr} {s t : State} (h : RxfStep i s t) : keepsFifos s t :=
  ⟨.inl (by rw [h.frame]), fifoStep_of_push (h.rxq.imp_right And.right)⟩

theorem HostStep.keepsFifos {i : Instr} {s t : State} (h : HostStep i s t) : keepsFifos s t :=
  ⟨fifoStep_of_push h.txq, fifoStep_of_pop h.rxq⟩

theorem instrFormat_rxfRow (b : Byte) (s : State) : instrFormat (rxfRow b s) = .rxf :=
  instrFormat_of_decodeRxf (decode_rxfWord b s)

theorem rxfRow_ne_rxPush {b : Byte} {s : State} (hpush : s.rxState ≠ .push) :
    rxfRow b s ≠ .rxPush := by
  cases hst : s.rxState
  case push => exact absurd hst hpush
  all_goals simp only [rxfRow, hst]; repeat' split
  all_goals simp

/-- No byte step touches a queue: the push is a step of its own (R146, R148). -/
theorem receiveByte_queues {b : Byte} {s t : State} (h : receiveByte b s = .next t) :
    t.txq = s.txq ∧ t.rxq = s.rxq := by
  cases hrun : running s with
  | false =>
    rw [receiveByte, if_neg (by simp [hrun])] at h
    cases h
    exact ⟨rfl, rfl⟩
  | true =>
    by_cases hpush : s.rxState = .push
    · simp only [receiveByte, hrun, hpush, if_true] at h
      cases h
      exact ⟨rfl, rfl⟩
    · rw [← meaning_rxfRow hrun hpush] at h
      have hstep := meaning_rxfStep (instrFormat_rxfRow b s) h
      exact ⟨by rw [hstep.frame],
        hstep.rxq.resolve_right fun hrow => rxfRow_ne_rxPush hpush hrow.1⟩

theorem receiveBytes_queues {bs : List Byte} {s t : State} (h : receiveBytes bs s = .next t) :
    t.txq = s.txq ∧ t.rxq = s.rxq := by
  induction bs generalizing s with
  | nil => cases h; exact ⟨rfl, rfl⟩
  | cons b bs ih =>
    obtain ⟨u, hu, ht⟩ := andThen_eq_next.1 h
    obtain ⟨htxq, hrxq⟩ := receiveByte_queues hu
    obtain ⟨htxq', hrxq'⟩ := ih ht
    exact ⟨htxq'.trans htxq, hrxq'.trans hrxq⟩

theorem receiveBytes_keepsFifos {bs : List Byte} {s t : State} (h : receiveBytes bs s = .next t) :
    keepsFifos s t :=
  keepsFifos_of_same (receiveBytes_queues h).1 (receiveBytes_queues h).2

theorem pushHeld_keepsFifos {s t : State} (h : pushHeld s = .next t) : keepsFifos s t := by
  obtain ⟨-, -, -, hpush⟩ | rfl := pushHeld_next h
  · exact (pushFrame_rxfStep hpush).keepsFifos
  · exact keepsFifos_of_same rfl rfl

/-- A whole frame pushes at most once, at its end (R70). -/
theorem meaning_wire_keepsFifos {i : Instr} {s t : State} (hi : instrFormat i = .wire)
    (h : meaning i s = .next t) : keepsFifos s t := by
  cases i <;> cases hi
  case ctrl => exact receiveBytes_keepsFifos h
  case data =>
    obtain ⟨u, hu, ht⟩ := andThen_eq_next.1 h
    obtain ⟨htxq, hrxq⟩ := receiveBytes_queues hu
    rw [keepsFifos, ← htxq, ← hrxq]
    exact pushHeld_keepsFifos ht
  case badlenShort => exact receiveBytes_keepsFifos h
  case badlenLong => exact receiveBytes_keepsFifos h

theorem eq_init_of_instrFormat {i : Instr} (hi : instrFormat i = .rst) : i = .init := by
  cases i <;> cases hi
  rfl

theorem exec_keepsFifos {i : Instr} {s t : State} (hrst : s.rst = false)
    (h : exec i s = .next t) : keepsFifos s t := by
  rw [exec_eq_whenEnabled] at h
  obtain ⟨henabled, hmeaning⟩ | ⟨-, rfl⟩ := whenEnabled_eq_next.1 h
  · cases hi : instrFormat i with
    | wire => exact meaning_wire_keepsFifos hi hmeaning
    | rxf => exact (meaning_rxfStep hi hmeaning).keepsFifos
    | txf => exact (meaning_txfStep hi hmeaning).keepsFifos
    | host => exact (meaning_hostStep hi hmeaning).keepsFifos
    | rst =>
      obtain rfl := eq_init_of_instrFormat hi
      have hreset : s.rst = true := henabled
      simp [hrst] at hreset
  · exact keepsFifos_of_same rfl rfl

theorem environmentTurn_keepsFifos {turn : Turn} {s t : State}
    (h : environmentTurn turn s = some t) : keepsFifos s t := by
  cases turn <;> cases h <;> exact keepsFifos_of_same rfl rfl

theorem perform_keepsFifos {turn : Turn} {s t : State} (hrst : s.rst = false)
    (h : perform turn s = .next t) : keepsFifos s t := by
  obtain henv | ⟨-, rfl | ⟨code, i, -, -, hexec⟩⟩ := perform_next h
  · exact environmentTurn_keepsFifos henv
  · exact keepsFifos_of_same rfl rfl
  · exact exec_keepsFifos hrst hexec

/-! ## The signals (R131) -/

/-- The rows of the three agents, whose instructions are one step each. -/
def isAgentStep (i : Instr) : Prop := instrFormat i ≠ .wire ∧ instrFormat i ≠ .rst

theorem meaning_masksSig {i : Instr} {s t : State} (hi : isAgentStep i)
    (h : meaning i s = .next t) : masksSig i s t := by
  obtain ⟨hwire, hrst⟩ := hi
  cases hf : instrFormat i with
  | wire => exact absurd hf hwire
  | rxf => exact (meaning_rxfStep hf h).sig
  | txf => exact (meaning_txfStep hf h).sig
  | host => exact (meaning_hostStep hf h).sig
  | rst => exact absurd hf hrst

/-- A length error's frame sets no signal (R77, R144). -/
theorem exec_badlen_masksSig {i : Instr} {s t : State} {len : Byte}
    (hframe : awaitFrame [startByte, len] s = true) (hi : isBadlenRow s.cfg.mtu len i)
    (hclear : clearMask i = 0) (hset : setMask s.cfg.errPolicy i = 0) (h : exec i s = .next t) :
    masksSig i s t := by
  obtain ⟨hrun, hst, rest, hline⟩ := awaitFrame_iff.1 hframe
  rw [exec_badlen hrun hst hline hi] at h
  cases h
  exact masksSig_of_same hclear hset
    ((lenBad_rxfStep len (huntStart s)).sig.trans (sigNext_none s.sig))

/-- Of the frame rows other than CTRL and DATA, only those of a length error are left (R70, R77). -/
theorem exec_wire_masksSig {i : Instr} {s t : State} (hi : instrFormat i = .wire) (hctrl : i ≠ .ctrl)
    (hdata : ∀ len p c, i ≠ .data len p c) (henabled : enabled i s = true)
    (h : exec i s = .next t) : masksSig i s t := by
  cases i <;> cases hi
  case ctrl => exact absurd rfl hctrl
  case data => exact absurd rfl (hdata _ _ _)
  case badlenShort => exact exec_badlen_masksSig henabled (.inl ⟨rfl, rfl⟩) rfl rfl h
  case badlenLong len =>
    simp only [enabled, Bool.and_eq_true, decide_eq_true_eq] at henabled
    obtain ⟨hframe, hlong⟩ := henabled
    exact exec_badlen_masksSig hframe (.inr ⟨hlong, rfl⟩) rfl rfl h

/-! ## The steps of one cycle (R130) -/

theorem full_of_length_le {α : Type} {depth : Nat} {q q' : List α} (hle : q'.length ≤ q.length)
    (h : full depth q = false) : full depth q' = false :=
  full_eq_false_iff.2 (hle.trans_lt (full_eq_false_iff.1 h))

theorem length_le_of_pop {α : Type} {q q' : List α} (h : q' = q ∨ ∃ x, q = x :: q') :
    q'.length ≤ q.length := by
  obtain rfl | ⟨x, rfl⟩ := h
  · exact Nat.le_refl _
  · exact Nat.le_succ _

/-- TXF writes nothing that RXF's instructions wait for. -/
theorem TxfStep.enabled_rxf {i j : Instr} {s t : State} (h : TxfStep i s t)
    (hj : instrFormat j = .rxf) : enabled j t = enabled j s := by
  rw [h.frame]
  cases j <;> cases hj <;> rfl

/-- A SEND waits for room in TXQ, and TXF takes none away. -/
theorem TxfStep.enabled_host {i j : Instr} {s t : State} (h : TxfStep i s t)
    (hj : instrFormat j = .host) (henabled : enabled j s = true) : enabled j t = true := by
  have hroom := full_of_length_le (depth := s.cfg.txqDepth) (length_le_of_pop h.txq)
  rw [h.frame]
  cases j <;> cases hj
  case send rxFire r =>
    simp only [enabled, Bool.and_eq_true, Bool.not_eq_true'] at henabled ⊢
    obtain ⟨⟨hpresented, hfull⟩, hrx⟩ := henabled
    exact ⟨⟨hpresented, hroom hfull⟩, hrx⟩
  case sendReject => exact henabled
  case recv => exact henabled

/-- RX_PUSH waits for room in RXQ, and the host takes none away. -/
theorem HostStep.enabled_rxf {i j : Instr} {s t : State} (h : HostStep i s t)
    (hj : instrFormat j = .rxf) (henabled : enabled j s = true) : enabled j t = true := by
  have hroom := full_of_length_le (depth := s.cfg.rxqDepth) (length_le_of_pop h.rxq)
  rw [h.frame]
  cases j <;> cases hj
  case rxPush =>
    simp only [enabled, Bool.and_eq_true, Bool.not_eq_true'] at henabled ⊢
    obtain ⟨hpush, hfull⟩ := henabled
    exact ⟨hpush, hroom hfull⟩
  all_goals exact henabled

/-- In one cycle `j` may come after `i`: it consumes no signal, and stays enabled over `i`. -/
def mayFollow (i j : Instr) : Prop :=
  clearMask j = 0 ∧
    ∀ s t, meaning i s = .next t → enabled j s = true → enabled j t = true

theorem clearMask_of_not_txf {i : Instr} (hi : instrFormat i ≠ .txf) : clearMask i = 0 := by
  cases i
  case txWait1 => exact absurd rfl hi
  case txGate => exact absurd rfl hi
  all_goals rfl

theorem mayFollow_txf_host {i j : Instr} (hi : instrFormat i = .txf) (hj : instrFormat j = .host) :
    mayFollow i j :=
  ⟨clearMask_of_not_txf (by simp [hj]),
    fun _ _ h => (meaning_txfStep hi h).enabled_host hj⟩

theorem mayFollow_txf_rxf {i j : Instr} (hi : instrFormat i = .txf) (hj : instrFormat j = .rxf) :
    mayFollow i j :=
  ⟨clearMask_of_not_txf (by simp [hj]),
    fun _ _ h henabled => ((meaning_txfStep hi h).enabled_rxf hj).trans henabled⟩

theorem mayFollow_host_rxf {i j : Instr} (hi : instrFormat i = .host) (hj : instrFormat j = .rxf) :
    mayFollow i j :=
  ⟨clearMask_of_not_txf (by simp [hj]),
    fun _ _ h => (meaning_hostStep hi h).enabled_rxf hj⟩

theorem cfg_of_isAgentStep {i : Instr} {s t : State} (hi : isAgentStep i)
    (h : meaning i s = .next t) : t.cfg = s.cfg := by
  have hinit : i ≠ .init := by rintro rfl; exact hi.2 rfl
  exact (meaning_noReset hinit h).1

/-- Instructions that may follow one another run one by one with their masks combined: the first alone consumes, so
every set survives. -/
theorem runInstrs_sig {is : List Instr} {s t : State} (hagents : ∀ i ∈ is, isAgentStep i)
    (henabled : ∀ i ∈ is, enabled i s = true) (hfollow : is.Pairwise mayFollow)
    (h : runInstrs is s = .next t) :
    t.sig = sigNext s.sig (orMasks clearMask is) (orMasks (setMask s.cfg.errPolicy) is) := by
  induction is generalizing s with
  | nil => cases h; exact (sigNext_none _).symm
  | cons i is ih =>
    obtain ⟨u, hu, ht⟩ := andThen_eq_next.1 h
    obtain ⟨hi, hagents⟩ := List.forall_mem_cons.1 hagents
    obtain ⟨hienabled, henabled⟩ := List.forall_mem_cons.1 henabled
    obtain ⟨hafter, hfollow⟩ := List.pairwise_cons.1 hfollow
    rw [exec_of_enabled hienabled] at hu
    have hclear : orMasks clearMask is = 0 := orMasks_eq_zero fun j hj => (hafter j hj).1
    have hclear_cons : orMasks clearMask (i :: is) = clearMask i := by
      rw [orMasks_cons, hclear]
      exact BitVec.or_zero
    have hrest := ih hagents (fun j hj => (hafter j hj).2 s u hu (henabled j hj)) hfollow ht
    have hsig : u.sig = _ := meaning_masksSig hi hu
    rw [hrest, hsig, cfg_of_isAgentStep hi hu, hclear, sigNext_sigNext_set, hclear_cons,
      orMasks_cons]

/-! ### The instructions of a cycle -/

theorem cycleInstrs_of_running {s : State} (hrst : s.rst = false) :
    cycleInstrs s = (cycleTurns s).filterMap (turnInstr · s) := by
  simp [cycleInstrs, hrst]

theorem enabled_of_mem_cycleInstrs {s : State} {i : Instr} (hrst : s.rst = false)
    (hi : i ∈ cycleInstrs s) : enabled i s = true := by
  rw [cycleInstrs_of_running hrst, List.mem_filterMap] at hi
  obtain ⟨turn, -, hturn⟩ := hi
  exact (turnInstr_eq_some hturn).2

theorem isAgentStep_of_mem_cycleInstrs {s : State} {i : Instr} (hrst : s.rst = false)
    (hi : i ∈ cycleInstrs s) : isAgentStep i := by
  rw [cycleInstrs_of_running hrst, List.mem_filterMap] at hi
  obtain ⟨turn, hmem, hturn⟩ := hi
  simp only [cycleTurns, List.mem_cons, List.not_mem_nil, or_false] at hmem
  obtain rfl | rfl | rfl := hmem
  · simp [isAgentStep, instrFormat_of_turnInstr_txf hrst hturn]
  · simp [isAgentStep, instrFormat_of_turnInstr_host hrst hturn]
  · simp [isAgentStep, instrFormat_of_turnInstr_rxf hrst hturn]

/-- The consumer comes first, and each agent's instruction waits for nothing that those before it take away. -/
theorem cycleInstrs_pairwise {s : State} (hrst : s.rst = false) :
    (cycleInstrs s).Pairwise mayFollow := by
  rw [cycleInstrs_of_running hrst, List.pairwise_filterMap, cycleTurns]
  have htxf {i : Instr} := instrFormat_of_turnInstr_txf (i := i) hrst
  have hhost {i : Instr} := instrFormat_of_turnInstr_host (i := i) (who := fireVector s) hrst
  have hrxf {i : Instr} := instrFormat_of_turnInstr_rxf (i := i) hrst
  simp only [List.pairwise_cons, List.forall_mem_cons, List.not_mem_nil, false_implies, implies_true,
    List.Pairwise.nil, and_true]
  exact ⟨⟨fun _ hi _ hj => mayFollow_txf_host (htxf hi) (hhost hj),
      fun _ hi _ hj => mayFollow_txf_rxf (htxf hi) (hrxf hj)⟩,
    fun _ hi _ hj => mayFollow_host_rxf (hhost hi) (hrxf hj)⟩

end Sys2Proof.Machine

open Sys2Proof Sys2Proof.Machine

/-- Settles O49: each agent's rule says what it does to each queue, and a whole frame pushes once. -/
theorem theQueuesAreFifos : Obligations.TheQueuesAreFifos :=
  fun s _ hstep hrst => perform_keepsFifos (s := afterFetch s) hrst hstep

/-- Settles O53: each agent's rule has its instruction's masks, and a length error sets no signal. -/
theorem signalsChangeAsTheirTableSays : Obligations.SignalsChangeAsTheirTableSays := by
  intro i s t hexec henabled hctrl hdata hinit
  by_cases hwire : instrFormat i = .wire
  · exact exec_wire_masksSig hwire hctrl hdata henabled hexec
  · rw [exec_of_enabled henabled] at hexec
    exact meaning_masksSig ⟨hwire, mt eq_init_of_instrFormat hinit⟩ hexec

/-- Settles O56: the instructions of a cycle run in the order consumers, setters, each still enabled. -/
theorem aCycleCombinesSignalsConsumeThenSet : Obligations.ACycleCombinesSignalsConsumeThenSet := by
  intro s t hrst hcycle
  refine runInstrs_sig (s := tick s) (fun i hi => isAgentStep_of_mem_cycleInstrs hrst hi)
    (fun i hi => ?_) (cycleInstrs_pairwise hrst) hcycle
  rw [enabled_tick, enabled_of_mem_cycleInstrs hrst hi]

end

section
/-! PROOFS. The family 42_receiver: what each RXF row does to the whole state (R141-R148), and the match of the
checksum byte as VALIDATE of the received frame (R146, R149). -/

namespace Sys2Proof.Machine

/-! ## The row RXF's state and the byte select (R86) -/

theorem rxfRow_of_hunt {b : Byte} {s : State} (hst : s.rxState = .hunt) :
    rxfRow b s = if b = startByte then .rxHuntStart else .rxHuntSkip b := by
  simp only [rxfRow, hst]

theorem rxfRow_of_zeroLen {s : State} (hst : s.rxState = .len) : rxfRow 0 s = .rxLenCtrl := by
  simp only [rxfRow, hst, if_true]

theorem rxfRow_of_legalLen {b : Byte} {s : State} (hst : s.rxState = .len)
    (hlegal : legalLen s.cfg.mtu b = true) : rxfRow b s = .rxLenData b := by
  simp only [rxfRow, hst, if_neg (ne_zero_of_legalLen hlegal), if_pos hlegal]

/-- The length bytes of R144 are those R77 calls a length error. -/
theorem rxfRow_of_badLen {b : Byte} {s : State} (hst : s.rxState = .len)
    (hbad : b = 1 ∨ s.cfg.mtu < b.toNat) : rxfRow b s = .rxLenBad b := by
  have hrow (hne : b ≠ 0) (hillegal : legalLen s.cfg.mtu b = false) : rxfRow b s = .rxLenBad b := by
    simp only [rxfRow, hst, if_neg hne, hillegal, Bool.false_eq_true, if_false]
  obtain rfl | hlong := hbad
  · exact hrow (by decide) (legalLen_one _)
  · exact hrow (ne_zero_of_mtu_lt hlong) (legalLen_of_mtu_lt hlong)

theorem rxfRow_of_payload {b : Byte} {s : State} (hst : s.rxState = .payload) :
    rxfRow b s = .rxPayload b := by
  simp only [rxfRow, hst]

theorem rxfRow_of_cksum {b : Byte} {s : State} (hst : s.rxState = .cksum) :
    rxfRow b s = if b = s.rxAcc then .rxCksumOk b else .rxCksumBad b := by
  simp only [rxfRow, hst]

/-! ## The selected row runs -/

/-- The row selected for the byte offered is enabled, so it has its meaning (R86, R140). -/
theorem exec_of_rxfRow {b : Byte} {rest : List Byte} {i : Instr} {s : State}
    (hrst : s.rst = false) (hfault : s.fault = false) (hpush : s.rxState ≠ .push)
    (hline : s.lineIn = b :: rest) (hrow : rxfRow b s = i) : exec i s = meaning i s :=
  exec_of_enabled (hrow ▸ enabled_rxfRow (running_iff.2 ⟨hrst, hfault⟩) hpush hline)

theorem payloadByte_of_lt {b : Byte} {s : State} (hroom : s.rxCnt.toNat < s.rxBuf.length) :
    payloadByte b s = .next { s with
      lineIn := s.lineIn.tail
      rxBuf := s.rxBuf.set s.rxCnt.toNat b
      rxAcc := s.rxAcc ^^^ b
      rxCnt := s.rxCnt + 1
      rxState := if s.rxCnt + 1 = s.rxLen then .cksum else .payload } :=
  if_pos hroom

theorem pushFrame_of_le {s : State} (hlen : s.rxLen.toNat ≤ s.rxBuf.length) :
    pushFrame s = .next { s with
      rxq := s.rxq ++ [{ len := s.rxLen, payload := s.rxBuf.take s.rxLen.toNat }]
      sig := sigSet .ack s.sig
      rxState := .hunt } :=
  if_pos hlen

/-- RX_PUSH is the push at the end of a DATA frame (log 7). -/
theorem exec_rxPush_eq_pushHeld (s : State) : exec .rxPush s = pushHeld s :=
  exec_eq_whenEnabled .rxPush s

/-- In R_CKSUM `rx_acc` is the one byte that validates the received frame (R105, R149). -/
theorem eq_rxAcc_iff_validate {s : State} (hinv : EndInv s) (hst : s.rxState = .cksum) (c : Byte) :
    c = s.rxAcc ↔ validate s.rxLen (s.rxBuf.take s.rxLen.toNat) c = true := by
  obtain ⟨-, -, hrecv, -, -⟩ := hinv
  obtain ⟨-, -, hacc⟩ := (receiverOk_cksum hst).1 hrecv
  rw [validate_iff, hacc]

end Sys2Proof.Machine

open Sys2Proof Sys2Proof.Machine

/-- Settles O19: RX_CKSUM_OK is the row of a matching byte, and under the invariant the accumulator is the
frame's checksum. -/
theorem aMatchingChecksumHoldsTheFrame : Obligations.AMatchingChecksumHoldsTheFrame := by
  intro s rest hrst hfault hst hline
  have hrow : rxfRow s.rxAcc s = .rxCksumOk s.rxAcc := by rw [rxfRow_of_cksum hst, if_pos rfl]
  refine ⟨?_, fun hinv => eq_rxAcc_iff_validate hinv hst⟩
  rw [exec_of_rxfRow hrst hfault (by simp [hst]) hline hrow]
  obtain rfl : s.lineIn.tail = rest := by rw [hline]; rfl
  rfl

/-- Settles O15: a start byte and any other byte select the two rows of R_HUNT (R141). -/
theorem huntTakesAStartAndSkipsFill : Obligations.HuntTakesAStartAndSkipsFill := by
  intro s b rest hrst hfault hst hline
  have hexec {i : Instr} := exec_of_rxfRow (i := i) hrst hfault (by simp [hst]) hline
  obtain rfl : s.lineIn.tail = rest := by rw [hline]; rfl
  constructor
  · intro hb
    rw [hexec (by rw [rxfRow_of_hunt hst, if_pos hb])]
    rfl
  · intro hb
    rw [hexec (by rw [rxfRow_of_hunt hst, if_neg hb])]
    rfl

/-- Settles O16: a zero byte and a legal length select the first two rows of R_LEN (R142, R143). -/
theorem legalLengthBytesAreTaken : Obligations.LegalLengthBytesAreTaken := by
  intro s b rest hrst hfault hst hline
  have hexec {i : Instr} := exec_of_rxfRow (i := i) hrst hfault (by simp [hst]) hline
  obtain rfl : s.lineIn.tail = rest := by rw [hline]; rfl
  constructor
  · rintro rfl
    rw [hexec (rxfRow_of_zeroLen hst)]
    rfl
  · intro hmin hmax
    rw [hexec (rxfRow_of_legalLen hst (legalLen_iff.2 ⟨hmin, hmax⟩))]
    rfl

/-- Settles O17: the byte selects RX_LEN_BAD, whose effect is the error policy's (R144). -/
theorem aBadLengthIsALengthError : Obligations.ABadLengthIsALengthError := by
  intro s b rest hrst hfault hst hline hbad
  rw [exec_of_rxfRow hrst hfault (by simp [hst]) hline (rxfRow_of_badLen hst hbad),
    meaning]
  obtain rfl : s.lineIn.tail = rest := by rw [hline]; rfl
  exact ⟨fun hpolicy => by rw [lenBad_of_fatal hpolicy]; rfl,
    fun hpolicy => by rw [lenBad_of_dropResync hpolicy]; rfl⟩

/-- Settles O18: RX_PAYLOAD stores within `rx_buf`, and its test reads the incremented count (R145). -/
theorem aPayloadByteIsStoredAndCounted : Obligations.APayloadByteIsStoredAndCounted := by
  intro s b rest hrst hfault hst hline hroom
  rw [exec_of_rxfRow hrst hfault (by simp [hst]) hline (rxfRow_of_payload hst),
    meaning, payloadByte_of_lt hroom, hline, List.tail_cons]

/-- Settles O20: the byte selects RX_CKSUM_BAD, whose effect is the error policy's (R147). -/
theorem aChecksumMismatchIsAnError : Obligations.AChecksumMismatchIsAnError := by
  intro s b rest hrst hfault hst hline hne
  have hrow : rxfRow b s = .rxCksumBad b := by rw [rxfRow_of_cksum hst, if_neg hne]
  rw [exec_of_rxfRow hrst hfault (by simp [hst]) hline hrow, meaning]
  obtain rfl : s.lineIn.tail = rest := by rw [hline]; rfl
  exact ⟨fun hpolicy => by rw [cksumBad_of_fatal hpolicy]; rfl,
    fun hpolicy => by rw [cksumBad_of_dropResync hpolicy]; rfl⟩

/-- Settles O21: the push happens where RXQ has room; `lin_ready` is 0 in R_PUSH (R140, R148). -/
theorem aHeldFrameIsPushedWhenThereIsRoom : Obligations.AHeldFrameIsPushedWhenThereIsRoom := by
  intro s hrst hfault hst hlen
  rw [exec_rxPush_eq_pushHeld]
  constructor
  · intro hroom
    rw [pushHeld_of_room (running_iff.2 ⟨hrst, hfault⟩) hst hroom, pushFrame_of_le hlen]
    rfl
  · exact fun hfull => ⟨pushHeld_of_full hfull, by simp [linReady, hst]⟩
end

section
/-! PROOFS. The family 43_sender: what each TXF row does to the whole state (R161-R168), T_XMIT's turns over a held
frame (R168, R169), and startup, which no step but reset enters (R171). -/

namespace Sys2Proof.Machine

/-! ## A row of TXF under its `await` (R87, R160) -/

/-- A TXF row in its state runs where its condition `ready` holds, and waits otherwise (R13, R15). -/
theorem exec_of_awaitTx {i : Instr} {st : TxState} {s : State} {ready : Bool} (hrst : s.rst = false)
    (hfault : s.fault = false) (hst : s.txState = st)
    (hawait : enabled i s = (awaitTx st s && ready)) :
    exec i s = if ready then meaning i s else .next s := by
  have hstate : awaitTx st s = true := awaitTx_iff.2 ⟨running_iff.2 ⟨hrst, hfault⟩, hst⟩
  rw [exec_eq_whenEnabled, whenEnabled, hawait, hstate, Bool.true_and]

/-! ## The operations, case by case -/

theorem ctrlEmit_of_start {s : State} (hidx : s.txIdx = 0) :
    ctrlEmit s = { emit startByte s with txIdx := 1 } := by
  rw [ctrlEmit, if_pos hidx, ctrlByte, if_pos hidx]

theorem ctrlEmit_of_end {s : State} (hidx : s.txIdx ≠ 0) :
    ctrlEmit s = { emit 0 s with
      txIdx := 0
      txState := retState s.txRet
      txTimer := if s.txRet = .suWait then s.cfg.startupInterval else s.txTimer } := by
  rw [ctrlEmit, if_neg hidx, ctrlByte, if_neg hidx]

theorem checkDeq_of_head {s : State} {k : Packet} {rest : List Packet} (hq : s.txq = k :: rest)
    (hfits : Packet.fits s.cfg.mtu k = true) (hbuf : s.txBuf.length = s.cfg.mtu + 3) :
    checkDeq s = .next { s with
      txq := rest
      txBuf := encodePacket k ++ s.txBuf.drop (encodePacket k).length
      txFlen := BitVec.ofNat 9 (encodePacket k).length
      txIdx := 0
      txState := .gate } := by
  have hroom : (encodePacket k).length ≤ s.txBuf.length := hbuf ▸ encodePacket_length_le hfits
  simp only [checkDeq, hq, if_pos hfits, if_pos hroom]

theorem xmitByte_of_last {s : State} {b : Byte} (hb : s.txBuf[s.txIdx.toNat]? = some b)
    (hlast : s.txIdx + 1 = s.txFlen) :
    xmitByte s = .next { emit b s with txIdx := 0, txState := .check } := by
  simp only [xmitByte, hb, if_pos hlast]

theorem xmitByte_of_more {s : State} {b : Byte} (hb : s.txBuf[s.txIdx.toNat]? = some b)
    (hmore : s.txIdx + 1 ≠ s.txFlen) :
    xmitByte s = .next { emit b s with txIdx := s.txIdx + 1 } := by
  simp only [xmitByte, hb, if_neg hmore]

/-! ## The signals TXF observes (R128, R129) -/

theorem sigPeek_ready (sig : BitVec 3) : sigPeek .ready sig = sig.getLsbD 0 := by
  revert sig; decide

theorem sigPeek_ack (sig : BitVec 3) : sigPeek .ack sig = sig.getLsbD 1 := by
  revert sig; decide

theorem sigPeek_txq (sig : BitVec 3) : sigPeek .txq sig = sig.getLsbD 2 := by
  revert sig; decide

/-- A signal of the set waited for is observed where it is set. -/
theorem sigPeek_sigObserved {x : Signal} {set : BitVec 3} (sig : BitVec 3)
    (hmem : set &&& signalMask x = signalMask x) :
    sigPeek x (sigObserved set sig) = sigPeek x sig := by
  rw [sigPeek, sigObserved, BitVec.and_assoc, hmem, sigPeek]

/-- A wait for two signals is over where one of them is set. -/
theorem sigPending_pair (x y : Signal) (sig : BitVec 3) :
    sigPending (signalMask x ||| signalMask y) sig = (sigPeek x sig || sigPeek y sig) := by
  rw [Bool.eq_iff_iff, Bool.or_eq_true]
  simp only [sigPending, sigPeek, bne_iff_ne, BitVec.and_or_distrib_left, ne_eq]
  rw [← not_and_or, not_iff_not]
  exact BitVec.or_eq_zero_iff

theorem sigPending_waitSet (sig : BitVec 3) :
    sigPending waitSet sig = (sig.getLsbD 2 || sig.getLsbD 1) := by
  rw [waitSet, sigPending_pair, sigPeek_txq, sigPeek_ack]

theorem sigPending_gateSet (sig : BitVec 3) :
    sigPending gateSet sig = (sig.getLsbD 1 || sig.getLsbD 0) := by
  rw [gateSet, sigPending_pair, sigPeek_ack, sigPeek_ready]

theorem wait1Observe_of_ack {s : State} (hack : s.sig.getLsbD 1 = true) :
    wait1Observe s = sendCtrl .check (consumeSignals waitSet s) := by
  rw [wait1Observe, sigPeek_sigObserved _ rfl, sigPeek_ack, if_pos hack]

theorem wait1Observe_of_no_ack {s : State} (hack : s.sig.getLsbD 1 = false) :
    wait1Observe s = { consumeSignals waitSet s with txState := .check } := by
  rw [wait1Observe, sigPeek_sigObserved _ rfl, sigPeek_ack, hack, if_neg Bool.false_ne_true]

theorem gateNext_sigObserved (sig : BitVec 3) :
    gateNext (sigObserved gateSet sig) = if sig.getLsbD 0 then .xmit else .gate := by
  rw [gateNext, sigPeek_sigObserved _ rfl, sigPeek_ready]

theorem gateObserve_of_ack {s : State} (hack : s.sig.getLsbD 1 = true) :
    gateObserve s =
      sendCtrl (if s.sig.getLsbD 0 then .xmit else .gate) (consumeSignals gateSet s) := by
  rw [gateObserve, sigPeek_sigObserved _ rfl, sigPeek_ack, if_pos hack, gateNext_sigObserved]

theorem gateObserve_of_no_ack {s : State} (hack : s.sig.getLsbD 1 = false) :
    gateObserve s = { consumeSignals gateSet s with
      txState := retState (if s.sig.getLsbD 0 then .xmit else .gate) } := by
  rw [gateObserve, sigPeek_sigObserved _ rfl, sigPeek_ack, hack, if_neg Bool.false_ne_true,
    gateNext_sigObserved]

/-! ## T_XMIT's turns over the held frame (R168, R169) -/

/-- TXF sends a DATA frame that lies within `tx_buf`, `n` bytes of it still to leave, and line-out accepts. -/
structure SendsRest (n : Nat) (s : State) : Prop where
  rst : s.rst = false
  fault : s.fault = false
  xmit : s.txState = .xmit
  ready : s.loutReady = true
  inBuf : s.txFlen.toNat ≤ s.txBuf.length
  rest : s.txIdx.toNat + n = s.txFlen.toNat

theorem SendsRest.perform_txf {n : Nat} {s : State} (h : SendsRest n s) :
    perform .txf s = xmitByte s := by
  have hrow : txfRow s = .txXmit := by simp only [txfRow, h.xmit]
  rw [perform_txf_eq h.rst, hrow, exec_of_awaitTx h.rst h.fault h.xmit rfl, if_pos h.ready, meaning]

theorem SendsRest.exists_byte {n : Nat} {s : State} (h : SendsRest (n + 1) s) :
    ∃ b, s.txBuf[s.txIdx.toNat]? = some b ∧
      unsent s = b :: (heldFrame s).drop (s.txIdx.toNat + 1) := by
  have hrest := h.rest
  have hinBuf := h.inBuf
  have hlt : s.txIdx.toNat < s.txBuf.length := by omega
  have hget := List.getElem?_eq_getElem hlt
  exact ⟨_, hget, unsent_of_xmit h.xmit (by omega) hget⟩

theorem SendsRest.txIdx_succ {n : Nat} {s : State} (h : SendsRest (n + 1) s) :
    (s.txIdx + 1).toNat = s.txIdx.toNat + 1 := by
  have hrest := h.rest
  bv_omega

/-- The test on `tx_idx + 1` finds the last byte (R168). -/
theorem SendsRest.last_iff {n : Nat} {s : State} (h : SendsRest (n + 1) s) :
    s.txIdx + 1 = s.txFlen ↔ n = 0 := by
  have hrest := h.rest
  rw [← BitVec.toNat_inj, h.txIdx_succ]
  omega

theorem SendsRest.next {n : Nat} {s : State} (b : Byte) (h : SendsRest (n + 2) s) :
    SendsRest (n + 1) { emit b s with txIdx := s.txIdx + 1 } := by
  have hrest : (s.txIdx + 1).toNat + (n + 1) = s.txFlen.toNat := by
    rw [h.txIdx_succ, ← h.rest]
    omega
  exact ⟨h.rst, h.fault, h.xmit, h.ready, h.inBuf, hrest⟩

/-- From any byte of the frame on, as many turns as bytes are left hand over these bytes, in order. -/
theorem runTurns_unsent {n : Nat} {s : State} (h : SendsRest (n + 1) s) :
    runTurns (List.replicate (n + 1) .txf) s =
      .next { s with lineOut := s.lineOut ++ unsent s, txIdx := 0, txState := .check } := by
  induction n generalizing s with
  | zero =>
    obtain ⟨b, hb, hunsent⟩ := h.exists_byte
    have hend : (heldFrame s).drop (s.txIdx.toNat + 1) = [] := by
      rw [h.rest]
      exact List.drop_eq_nil_of_le (List.length_take_le _ _)
    rw [List.replicate_one, runTurns, h.perform_txf, xmitByte_of_last hb (h.last_iff.2 rfl), hunsent,
      hend]
    rfl
  | succ n ih =>
    obtain ⟨b, hb, hunsent⟩ := h.exists_byte
    have hmore : s.txIdx + 1 ≠ s.txFlen := mt h.last_iff.1 n.succ_ne_zero
    have hnext := h.next b
    have hunsent' : unsent { emit b s with txIdx := s.txIdx + 1 } =
        (heldFrame s).drop (s.txIdx.toNat + 1) := by
      rw [unsent, hnext.xmit, ← h.txIdx_succ]
      rfl
    rw [List.replicate_succ, runTurns, h.perform_txf, xmitByte_of_more hb hmore, andThen_next,
      ih hnext, hunsent', hunsent, emit_lineOut, List.append_assoc]
    rfl

/-! ## Startup (R171) -/

/-- TXF is past startup: neither in T_SU_WAIT nor emitting a CTRL frame that leads there (R39). -/
def pastStartup (s : State) : Prop :=
  s.txState ≠ .suWait ∧ (s.txState = .ctrl → s.txRet ≠ .suWait)

theorem startupDone_iff {s : State} : startupDone s = true ↔ s.rst = false ∧ pastStartup s := by
  simp [startupDone, pastStartup, imp_iff_not_or]

theorem pastStartup_of_same {s t : State} (hst : t.txState = s.txState) (hret : t.txRet = s.txRet)
    (h : pastStartup s) : pastStartup t := by
  rwa [pastStartup, hst, hret]

/-- TXF stands where neither part of startup can be. -/
theorem pastStartup_of_state {s : State} (hsuWait : s.txState ≠ .suWait) (hctrl : s.txState ≠ .ctrl) :
    pastStartup s :=
  ⟨hsuWait, fun h => absurd h hctrl⟩

theorem pastStartup_sendCtrl {ret : TxRet} (s : State) (h : ret ≠ .suWait) :
    pastStartup (sendCtrl ret s) :=
  ⟨by simp, fun _ => h⟩

/-- The state a `tx_ret` names is T_CTRL never, and T_SU_WAIT for its own code alone (R27). -/
theorem pastStartup_of_retState {ret : TxRet} {s : State} (hst : s.txState = retState ret)
    (h : ret ≠ .suWait) : pastStartup s := by
  cases ret
  case suWait => exact absurd rfl h
  all_goals exact pastStartup_of_state (by simp [hst, retState]) (by simp [hst, retState])

theorem ctrlEmit_pastStartup {s : State} (hst : s.txState = .ctrl) (h : pastStartup s) :
    pastStartup (ctrlEmit s) := by
  by_cases hidx : s.txIdx = 0
  · rw [ctrlEmit_of_start hidx]
    exact pastStartup_of_same rfl rfl h
  · rw [ctrlEmit_of_end hidx]
    obtain ⟨-, hret⟩ := h
    exact pastStartup_of_retState rfl (hret hst)

theorem wait1Observe_pastStartup (s : State) : pastStartup (wait1Observe s) := by
  unfold wait1Observe
  split
  · exact pastStartup_sendCtrl _ (by simp)
  · exact pastStartup_of_state (by simp) (by simp)

theorem gateObserve_pastStartup (s : State) : pastStartup (gateObserve s) := by
  unfold gateObserve
  split
  · exact pastStartup_sendCtrl _ (gateNext_ne_suWait _)
  · exact pastStartup_of_retState rfl (gateNext_ne_suWait _)

theorem checkDeq_pastStartup {s t : State} (h : pastStartup s) (ht : checkDeq s = .next t) :
    pastStartup t := by
  obtain ⟨-, rfl⟩ | ⟨k, rest, -, -, -, rfl⟩ := checkDeq_next ht
  · exact h
  · exact pastStartup_of_state (by simp) (by simp)

theorem xmitByte_pastStartup {s t : State} (h : pastStartup s) (ht : xmitByte s = .next t) :
    pastStartup t := by
  obtain ⟨b, -, rfl⟩ := xmitByte_next ht
  split
  · exact pastStartup_of_state (by simp) (by simp)
  · exact pastStartup_of_same rfl rfl h

/-- TXF's rows: those of startup are not enabled past it, and no other leads there (R161-R168). -/
theorem meaning_txf_pastStartup {i : Instr} {s t : State} (hi : instrFormat i = .txf)
    (henabled : enabled i s = true) (h : pastStartup s) (ht : meaning i s = .next t) :
    pastStartup t := by
  have hstate {st : TxState} {ready : Bool} (hawait : (awaitTx st s && ready) = true) :
      s.txState = st := by
    obtain ⟨hst, -⟩ := Bool.and_eq_true_iff.1 hawait
    exact (awaitTx_iff.1 hst).2
  cases i <;> cases hi
  case txCtrl => cases ht; exact ctrlEmit_pastStartup (hstate henabled) h
  case txSuTick => exact absurd (hstate henabled) h.1
  case txSuSample => exact absurd (hstate henabled) h.1
  case txCheckEmpty => cases ht; exact pastStartup_of_state (by simp [checkEmpty]) (by simp [checkEmpty])
  case txCheckDeq => exact checkDeq_pastStartup h ht
  case txWait1 => cases ht; exact wait1Observe_pastStartup s
  case txGate => cases ht; exact gateObserve_pastStartup s
  case txXmit => exact xmitByte_pastStartup h ht

theorem SameSender.pastStartup {s t : State} (hsame : SameSender s t) (h : pastStartup s) :
    pastStartup t :=
  pastStartup_of_same hsame.txState hsame.txRet h

theorem receiveBytes_pastStartup {bs : List Byte} {s t : State} (h : pastStartup s)
    (ht : receiveBytes bs s = .next t) : pastStartup t := by
  induction bs generalizing s with
  | nil => cases ht; exact h
  | cons b bs ih =>
    obtain ⟨u, hu, hrest⟩ := andThen_eq_next.1 ht
    exact ih ((receiveByte_sameSender hu).pastStartup h) hrest

/-- A frame received whole is RXF's alone, and RXF writes no register of TXF. -/
theorem meaning_wire_pastStartup {i : Instr} {s t : State} (hi : instrFormat i = .wire)
    (h : pastStartup s) (ht : meaning i s = .next t) : pastStartup t := by
  cases i <;> cases hi
  case ctrl => exact receiveBytes_pastStartup h ht
  case data =>
    obtain ⟨u, hu, hpush⟩ := andThen_eq_next.1 ht
    have hpast := receiveBytes_pastStartup h hu
    obtain ⟨-, -, -, hpushed⟩ | rfl := pushHeld_next hpush
    · exact (pushFrame_sameSender hpushed).pastStartup hpast
    · exact hpast
  case badlenShort => exact receiveBytes_pastStartup h ht
  case badlenLong => exact receiveBytes_pastStartup h ht

theorem exec_pastStartup {i : Instr} {s t : State} (hrst : s.rst = false) (h : pastStartup s)
    (ht : exec i s = .next t) : pastStartup t := by
  rw [exec_eq_whenEnabled] at ht
  obtain ⟨henabled, hmeaning⟩ | ⟨-, rfl⟩ := whenEnabled_eq_next.1 ht
  · cases hi : instrFormat i with
    | wire => exact meaning_wire_pastStartup hi h hmeaning
    | rxf =>
      have hframe := (meaning_rxfStep hi hmeaning).frame
      exact pastStartup_of_same (by rw [hframe]) (by rw [hframe]) h
    | txf => exact meaning_txf_pastStartup hi henabled h hmeaning
    | host =>
      have hframe := (meaning_hostStep hi hmeaning).frame
      exact pastStartup_of_same (by rw [hframe]) (by rw [hframe]) h
    | rst =>
      obtain rfl := eq_init_of_instrFormat hi
      have hreset : s.rst = true := henabled
      simp [hrst] at hreset
  · exact h

theorem environmentTurn_pastStartup {turn : Turn} {s t : State} (h : pastStartup s)
    (ht : environmentTurn turn s = some t) : pastStartup t := by
  cases turn <;> cases ht <;> exact h

theorem perform_pastStartup {turn : Turn} {s t : State} (hrst : s.rst = false) (h : pastStartup s)
    (ht : perform turn s = .next t) : pastStartup t := by
  obtain henv | ⟨-, rfl | ⟨code, i, -, -, hexec⟩⟩ := perform_next ht
  · exact environmentTurn_pastStartup h henv
  · exact h
  · exact exec_pastStartup hrst h hexec

end Sys2Proof.Machine

open Sys2Proof Sys2Proof.Machine

/-- Settles O32: at `tx_idx = 0` the bytes still to leave are the whole held frame. -/
theorem txfEmitsTheWholeHeldFrame : Obligations.TxfEmitsTheWholeHeldFrame := by
  intro s hrst hfault hst hidx hready hpos hlen
  obtain ⟨n, hn⟩ : ∃ n, s.txFlen.toNat = n + 1 := Nat.exists_eq_add_one.2 hpos
  have hsends : SendsRest (n + 1) s := ⟨hrst, hfault, hst, hready, hlen, by simp [hidx, hn]⟩
  have hwhole : unsent s = heldFrame s := by simp [unsent, hst, hidx]
  rw [hn, runTurns_unsent hsends, hwhole, ← hidx]

/-- Settles O54: outside reset no instruction and no input change leads back to startup. -/
theorem startupRunsOncePerReset : Obligations.StartupRunsOncePerReset := by
  intro s t hstep hdone hrst
  obtain ⟨hrun, hpast⟩ := startupDone_iff.1 hdone
  exact startupDone_iff.2 ⟨hrst, perform_pastStartup (s := afterFetch s) hrun hpast hstep⟩

/-- Settles O26: `tx_idx` tells the two bytes of the CTRL frame apart, and `tx_ret` where it leads (R161). -/
theorem theCtrlFrameIsEmittedByteByByte : Obligations.TheCtrlFrameIsEmittedByteByByte := by
  intro s hrst hfault hst
  have hexec := exec_of_awaitTx (i := .txCtrl) hrst hfault hst rfl
  rw [hexec, meaning]
  refine ⟨fun hready => ?_, fun hwaits => by rw [hwaits]; rfl⟩
  rw [if_pos hready]
  refine ⟨fun hidx => ?_, fun hidx hret => ?_, fun hidx hret => ?_⟩
  · rw [ctrlEmit_of_start hidx]
    rfl
  · rw [ctrlEmit_of_end hidx, if_neg hret]
    rfl
  · have hnext : retState s.txRet = .suWait := by rw [hret]; rfl
    rw [ctrlEmit_of_end hidx, if_pos hret, hnext]
    rfl

/-- Settles O27: the timer selects the row, and at 0 READY is peeked (R162, R163). -/
theorem startupTicksThenSamplesReady : Obligations.StartupTicksThenSamplesReady := by
  intro s hrst hfault hst
  have htick := exec_of_awaitTx (i := .txSuTick) hrst hfault hst rfl
  have hsample := exec_of_awaitTx (i := .txSuSample) hrst hfault hst rfl
  refine ⟨fun htimer => ?_, fun htimer hready => ?_, fun htimer hready => ?_⟩
  · rw [htick, if_pos (by simpa using htimer)]
    rfl
  · rw [hsample, if_pos (by simpa using htimer), meaning, suSample, sigPeek_ready, if_pos hready]
  · rw [hsample, if_pos (by simpa using htimer), meaning, suSample, sigPeek_ready, hready]
    rfl

/-- Settles O28: TXQ selects the row, and the head's frame has `dlen + 5` bytes (R104, R164, R165). -/
theorem theQueueIsTestedAndDequeued : Obligations.TheQueueIsTestedAndDequeued := by
  intro s hrst hfault hst
  have hempty := exec_of_awaitTx (i := .txCheckEmpty) hrst hfault hst rfl
  have hdeq := exec_of_awaitTx (i := .txCheckDeq) hrst hfault hst rfl
  refine ⟨fun hq => ?_, fun k rest hq hfits hbuf => ?_⟩
  · rw [hempty, if_pos (by simp [hq])]
    rfl
  · obtain ⟨hdata, -⟩ := packetFits_iff.1 hfits
    rw [hdeq, if_pos (by simp [hq]), meaning, checkDeq_of_head hq hfits hbuf, encodePacket_length,
      hdata]

/-- Settles O29: both bits are consumed, and an ACK leads to a CTRL frame first (R128, R166). -/
theorem wait1ServesAnAckFirst : Obligations.Wait1ServesAnAckFirst := by
  intro s hrst hfault hst
  have hexec := exec_of_awaitTx (i := .txWait1) hrst hfault hst rfl
  rw [hexec, sigPending_waitSet, meaning]
  refine ⟨fun hack => ?_, fun hack htxq => ?_, fun hack htxq => ?_⟩
  · rw [hack, Bool.or_true, if_pos rfl, wait1Observe_of_ack hack]
    rfl
  · rw [htxq, Bool.true_or, if_pos rfl, wait1Observe_of_no_ack hack]
    rfl
  · rw [hack, htxq]
    rfl

/-- Settles O30: both bits are consumed, READY says where TXF goes, and an ACK is served first (R128, R167). -/
theorem theGateReleasesOnReady : Obligations.TheGateReleasesOnReady := by
  intro s hrst hfault hst
  have hexec := exec_of_awaitTx (i := .txGate) hrst hfault hst rfl
  rw [hexec, sigPending_gateSet, meaning]
  refine ⟨fun hack hready => ?_, fun hack hready => ?_, fun hack hready => ?_, fun hack hready => ?_⟩
  · rw [hack, Bool.true_or, if_pos rfl, gateObserve_of_ack hack, hready]
    rfl
  · rw [hack, Bool.true_or, if_pos rfl, gateObserve_of_ack hack, hready]
    rfl
  · rw [hready, Bool.or_true, if_pos rfl, gateObserve_of_no_ack hack, hready]
    rfl
  · rw [hack, hready]
    rfl

/-- Settles O31: TX_XMIT hands over the byte at `tx_idx`, and its test reads the incremented index (R168). -/
theorem theDataFrameIsEmittedByteByByte : Obligations.TheDataFrameIsEmittedByteByByte := by
  intro s hrst hfault hst
  have hexec := exec_of_awaitTx (i := .txXmit) hrst hfault hst rfl
  rw [hexec, meaning]
  refine ⟨fun hready b hb => ?_, fun hwaits => by rw [hwaits]; rfl⟩
  rw [if_pos hready]
  refine ⟨fun hlast => ?_, fun hmore => ?_⟩
  · rw [xmitByte_of_last hb hlast]
    rfl
  · rw [xmitByte_of_more hb hmore]
    rfl
end

section
/-! PROOFS. The family 44_host_api: SEND_CHECK (R191), RECV (R195, R196), the SEND rows alone and beside a RECV
(R192-R194, R197), and INIT (R190). -/

namespace Sys2Proof.Machine

/-! ## RECV (R195, R196) -/

/-- DECODE reads the header off the first two payload bytes (R103, R106). -/
theorem decodeRecord_of_header {mtu : Nat} {len h0 h1 : Byte} {d : List Byte}
    (hlen : len.toNat = d.length + 2) (hmtu : len.toNat ≤ mtu) :
    decodeRecord mtu { len := len, payload := h0 :: h1 :: d } =
      some { route := unpack h0 h1, dlen := len - 2, data := d } := by
  have hlegal : legalLen mtu len = true := legalLen_iff.2 ⟨by omega, hmtu⟩
  exact if_pos (by simp [FrameRec.fits, hlegal, hlen])

theorem awaitRecv_of_head {f : FrameRec} {rest : List FrameRec} {s : State}
    (hrun : running s = true) (hready : s.rxReady = true) (hrxq : s.rxq = f :: rest) :
    awaitRecv s = true := by
  simp [awaitRecv, hrun, hready, hrxq]

/-- RECV's update: RXQ is left with `rest`, and `p` joins the packets delivered (R195). -/
def handOver (rest : List FrameRec) (p : RxPkt) (s : State) : State :=
  { s with rxq := rest, delivered := s.delivered ++ [p] }

theorem deliverHead_of_head {f : FrameRec} {rest : List FrameRec} {k : Packet} {s : State}
    (hrxq : s.rxq = f :: rest) (hdecode : decodeRecord s.cfg.mtu f = some k) :
    deliverHead s = .next (handOver rest (toRxPkt k) s) := by
  simp only [deliverHead, hrxq, hdecode, handOver]

theorem deliverHead_of_undecoded {f : FrameRec} {rest : List FrameRec} {s : State}
    (hrxq : s.rxq = f :: rest) (hdecode : decodeRecord s.cfg.mtu f = none) :
    deliverHead s = .fault .decodeDomain := by
  simp only [deliverHead, hrxq, hdecode]

theorem deliverHead_of_empty {s : State} (hrxq : s.rxq = []) : deliverHead s = .next s := by
  simp only [deliverHead, hrxq]

theorem exec_recv_of_await {s : State} (hawait : awaitRecv s = true) :
    exec .recv s = deliverHead s :=
  exec_of_enabled (i := .recv) hawait

theorem exec_recv_of_empty {s : State} (hrxq : s.rxq = []) : exec .recv s = .next s :=
  exec_of_waiting (i := .recv) (by simp [enabled, awaitRecv, hrxq])

/-! ## The SEND rows, alone and beside a RECV (R78, R192-R197) -/

/-- `op` is a SEND row, fired without and with the RX channel: its part on the TX channel is `f`, which
neither reads nor writes what RECV changes, RXQ and the packets delivered. -/
structure TxRow (op : Bool → Instr) (f : State → State) : Prop where
  meaning_eq : ∀ rxFire s, meaning (op rxFire) s = deliverIf rxFire (f s)
  enabled_eq : ∀ rxFire s, enabled (op rxFire) s = (enabled (op false) s && awaitRxFire rxFire s)
  enabled_handOver : ∀ rest p s, enabled (op false) (handOver rest p s) = enabled (op false) s
  effect_handOver : ∀ rest p s, f (handOver rest p s) = handOver rest p (f s)
  awaitRecv_eq : ∀ s, awaitRecv (f s) = awaitRecv s
  rxq_eq : ∀ s, (f s).rxq = s.rxq
  cfg_eq : ∀ s, (f s).cfg = s.cfg

theorem txRow_send (t : TxReq) : TxRow (fun rxFire => .send rxFire t) (acceptPacket t) where
  meaning_eq _ _ := rfl
  enabled_eq _ _ := by simp [enabled, awaitRxFire]
  enabled_handOver _ _ _ := rfl
  effect_handOver _ _ _ := rfl
  awaitRecv_eq _ := rfl
  rxq_eq _ := rfl
  cfg_eq _ := rfl

theorem txRow_sendReject (t : TxReq) :
    TxRow (fun rxFire => .sendReject rxFire t) (rejectPacket t) where
  meaning_eq _ _ := rfl
  enabled_eq _ _ := by simp [enabled, awaitRxFire]
  enabled_handOver _ _ _ := rfl
  effect_handOver _ _ _ := rfl
  awaitRecv_eq _ := rfl
  rxq_eq _ := rfl
  cfg_eq _ := rfl

namespace TxRow

variable {op : Bool → Instr} {f : State → State} {s : State}

theorem enabled_true_iff (h : TxRow op f) :
    enabled (op true) s = true ↔ enabled (op false) s = true ∧ awaitRecv s = true := by
  simp [h.enabled_eq true s, awaitRxFire]

theorem exec_alone (h : TxRow op f) (halone : enabled (op false) s = true) :
    exec (op false) s = .next (f s) := by
  rw [exec_of_enabled halone, h.meaning_eq]
  rfl

theorem exec_beside (h : TxRow op f) (hboth : enabled (op true) s = true) :
    exec (op true) s = deliverHead (f s) := by
  rw [exec_of_enabled hboth, h.meaning_eq]
  rfl

/-- Beside a SEND row, RXQ's head is delivered (R78). -/
theorem exec_beside_of_head (h : TxRow op f) {rec : FrameRec} {rest : List FrameRec} {k : Packet}
    (halone : enabled (op false) s = true) (hrun : running s = true) (hready : s.rxReady = true)
    (hrxq : s.rxq = rec :: rest) (hdecode : decodeRecord s.cfg.mtu rec = some k) :
    exec (op true) s = .next (handOver rest (toRxPkt k) (f s)) := by
  have hboth := h.enabled_true_iff.2 ⟨halone, awaitRecv_of_head hrun hready hrxq⟩
  rw [h.exec_beside hboth, deliverHead_of_head ((h.rxq_eq s).trans hrxq) (by rwa [h.cfg_eq])]

/-- The delivery and the SEND row's part on the TX channel commute, also where DECODE has no answer. -/
theorem deliverHead_comm (h : TxRow op f) (s : State) :
    deliverHead (f s) = andThen (deliverHead s) fun u => .next (f u) := by
  cases hrxq : s.rxq with
  | nil =>
    rw [deliverHead_of_empty hrxq, deliverHead_of_empty ((h.rxq_eq s).trans hrxq), andThen_next]
  | cons rec rest =>
    have hrxq' : (f s).rxq = rec :: rest := (h.rxq_eq s).trans hrxq
    cases hdecode : decodeRecord s.cfg.mtu rec with
    | none =>
      rw [deliverHead_of_undecoded hrxq hdecode,
        deliverHead_of_undecoded hrxq' (by rwa [h.cfg_eq]), andThen_fault]
    | some k =>
      rw [deliverHead_of_head hrxq hdecode, deliverHead_of_head hrxq' (by rwa [h.cfg_eq]),
        andThen_next, h.effect_handOver]

/-- RECV leaves what a SEND row waits for. -/
theorem enabled_deliverHead (h : TxRow op f) {u : State} (hu : deliverHead s = .next u) :
    enabled (op false) u = enabled (op false) s := by
  obtain ⟨-, rfl⟩ | ⟨_, rest, k, -, -, rfl⟩ := deliverHead_next hu
  · rfl
  · exact h.enabled_handOver rest (toRxPkt k) s

/-- One cycle's SEND row and RECV are the two instructions in either order (R197). -/
theorem exec_beside_eq_sequence (h : TxRow op f) (hboth : enabled (op true) s = true) :
    exec (op true) s = andThen (exec (op false) s) (exec .recv) ∧
      exec (op true) s = andThen (exec .recv s) (exec (op false)) := by
  obtain ⟨halone, hawait⟩ := h.enabled_true_iff.1 hboth
  rw [h.exec_beside hboth]
  constructor
  · rw [h.exec_alone halone, andThen_next, exec_recv_of_await ((h.awaitRecv_eq s).trans hawait)]
  · rw [h.deliverHead_comm, exec_recv_of_await hawait]
    refine andThen_congr fun u hu => ?_
    rw [h.exec_alone ((h.enabled_deliverHead hu).trans halone)]

end TxRow

theorem enabled_send_alone {t : TxReq} {s : State} (hrun : running s = true)
    (hvalid : s.txValid = true) (hchan : s.txChan = t) (hcheck : sendCheck s.cfg.mtu t = .accepted)
    (hroom : s.txq.length < s.cfg.txqDepth) : enabled (.send false t) s = true := by
  simp [enabled, awaitPresented, awaitRxFire, hrun, hvalid, hchan, hcheck,
    full_eq_false_iff.2 hroom]

theorem enabled_sendReject_alone {t : TxReq} {s : State} (hrun : running s = true)
    (hvalid : s.txValid = true) (hchan : s.txChan = t)
    (hcheck : sendCheck s.cfg.mtu t ≠ .accepted) : enabled (.sendReject false t) s = true := by
  simp [enabled, awaitPresented, awaitRxFire, hrun, hvalid, hchan, hcheck]

theorem full_of_depth_le {α : Type} {depth : Nat} {q : List α} (h : depth ≤ q.length) :
    full depth q = true :=
  decide_eq_true h

theorem exec_send_of_full {t : TxReq} {s : State} (rxFire : Bool)
    (hfull : full s.cfg.txqDepth s.txq = true) : exec (.send rxFire t) s = .next s :=
  exec_of_waiting (by simp [enabled, hfull])

theorem txReady_of_full {s : State} (hcheck : sendCheck s.cfg.mtu s.txChan = .accepted)
    (hfull : full s.cfg.txqDepth s.txq = true) : txReady s = false := by
  simp [txReady, hcheck, hfull]

/-! ## The packet a SEND stores (R192) -/

theorem storedPacket_route (t : TxReq) (s : State) :
    (storedPacket t s).route =
      { dst := t.dst.extractLsb' 0 3, src := t.src.extractLsb' 0 3, last := t.last,
        func := t.func } := by
  simp only [storedPacket, BitVec.setWidth_eq_extractLsb' (by decide : 3 ≤ 4)]

/-- The stored data bytes are the lanes the channel lists (log 11). -/
theorem storedPacket_data_getElem? {t : TxReq} {i : Nat} (s : State) (hdlen : i < t.dlen.toNat)
    (hlane : i < t.data.length) : (storedPacket t s).data[i]? = t.data[i]? := by
  simp [storedPacket, txLane, hdlen, hlane]

end Sys2Proof.Machine

open Sys2Proof Sys2Proof.Machine

/-- Settles O34: the row's effect is the push, the signal and the response, and the delivery beside it is
RECV's. -/
theorem anAcceptedSendQueuesThePacket : Obligations.AnAcceptedSendQueuesThePacket := by
  intro s t hrst hfault hvalid hchan hcheck hroom
  have hrun : running s = true := running_iff.2 ⟨hrst, hfault⟩
  have halone := enabled_send_alone hrun hvalid hchan hcheck hroom
  refine ⟨storedPacket t s, storedPacket_route t s, rfl, storedPacket_data_length t s,
    fun i => storedPacket_data_getElem? s, (txRow_send t).exec_alone halone, ?_⟩
  intro f rest q hready hrxq hdecode
  exact (txRow_send t).exec_beside_of_head halone hrun hready hrxq hdecode

/-- Settles O35: the row's effect is the response alone, and the delivery beside it is RECV's. -/
theorem aRejectedSendChangesNoBlockState : Obligations.ARejectedSendChangesNoBlockState := by
  intro s t hrst hfault hvalid hchan hcheck
  have hrun : running s = true := running_iff.2 ⟨hrst, hfault⟩
  have halone := enabled_sendReject_alone hrun hvalid hchan hcheck
  refine ⟨(txRow_sendReject t).exec_alone halone, ?_⟩
  intro f rest q hready hrxq hdecode
  exact (txRow_sendReject t).exec_beside_of_head halone hrun hready hrxq hdecode

/-- Settles O37: a SEND row's part on the TX channel and the delivery touch different fields, and neither
disables the other. -/
theorem theHostChannelsAreIndependent : Obligations.TheHostChannelsAreIndependent :=
  fun _ t => ⟨(txRow_send t).exec_beside_eq_sequence, (txRow_sendReject t).exec_beside_eq_sequence⟩

/-- Settles O33: the checks are nested in the order of R191. -/
theorem sendCheckReportsTheFirstViolation : Obligations.SendCheckReportsTheFirstViolation := by
  intro mtu t
  refine ⟨fun hlong => ?_, fun hlen hdst => ?_, fun hlen hdst hsrc => ?_, fun hlen hdst hsrc => ?_⟩
  · rw [sendCheck, if_pos hlong]
    rfl
  · rw [sendCheck, if_neg hlen.not_gt, if_pos hdst]
    rfl
  · rw [sendCheck, if_neg hlen.not_gt, if_neg hdst.not_gt, if_pos hsrc]
    rfl
  · rw [sendCheck, if_neg hlen.not_gt, if_neg hdst.not_gt, if_neg hsrc.not_gt]
    rfl

/-- Settles O36: DECODE answers on the head, and the RX channel shows its fields (R80, R106). -/
theorem recvReturnsTheDecodedHead : Obligations.RecvReturnsTheDecodedHead := by
  intro s len h0 h1 d rest hrst hfault hready hrxq hlen hmtu
  have hawait := awaitRecv_of_head (running_iff.2 ⟨hrst, hfault⟩) hready hrxq
  rw [exec_recv_of_await hawait, deliverHead_of_head hrxq (decodeRecord_of_header hlen hmtu)]
  rfl

/-- Settles O38: a full TXQ closes `tx_ready` to a valid packet, an empty RXQ closes `rx_valid`. -/
theorem hostOperationsWaitForTheQueues : Obligations.HostOperationsWaitForTheQueues := by
  intro s t rxFire
  constructor
  · rintro rfl hcheck hdepth
    have hfull := full_of_depth_le hdepth
    exact ⟨txReady_of_full hcheck hfull, exec_send_of_full rxFire hfull⟩
  · exact fun hrxq => ⟨by simp [rxValid, hrxq], exec_recv_of_empty hrxq⟩

/-- Settles O39: the buffers' bytes are the free values at the step counter (log 5). -/
theorem initTakesTheResetValues : Obligations.InitTakesTheResetValues := by
  intro s hrst
  exact ⟨(initState s).rxBuf, (initState s).txBuf, freeBytes_length .., freeBytes_length ..,
    exec_of_enabled (i := .init) hrst⟩
end

section
/-! PROOFS. The family 60_exceptions: the block is quiescent while `fault = 1` (R202), a step into the fault state
records the error byte of RXF and changes nothing else (R201), only reset leads out of it (R203), and two ends after
a common reset release meet the link's invariant (R210, R225). -/

namespace Sys2Proof.Machine

/-! ## The block at rest (R202) -/

theorem not_running_of_fault {s : State} (h : s.fault = true) : running s = false := by
  simp [running, h]

/-- Every `await` but that of reset asks for a running block (R202, R220). -/
theorem enabled_of_not_running {i : Instr} {s : State} (hi : i ≠ .init) (hrun : running s = false) :
    enabled i s = false := by
  have hbyte (st : RxState) (b : Byte) : awaitByte st b s = false := by simp [awaitByte, hrun]
  have hframe (frame : List Byte) : awaitFrame frame s = false := by simp [awaitFrame, hrun]
  have htx (st : TxState) : awaitTx st s = false := by simp [awaitTx, hrun]
  have hpresented (t : TxReq) : awaitPresented t s = false := by simp [awaitPresented, hrun]
  have hrecv : awaitRecv s = false := by simp [awaitRecv, hrun]
  cases i
  case init => exact absurd rfl hi
  all_goals simp only [enabled, hbyte, hframe, htx, hpresented, hrecv, hrun, Bool.false_and]

theorem exec_of_fault {i : Instr} {s : State} (hi : i ≠ .init) (hfault : s.fault = true) :
    exec i s = .next s :=
  exec_of_waiting (enabled_of_not_running hi (not_running_of_fault hfault))

theorem environmentTurn_fault {turn : Turn} {s t : State} (h : environmentTurn turn s = some t) :
    t.fault = s.fault := by
  cases turn <;> cases h <;> rfl

/-- A turn out of the fault state is an executed reset (R203). -/
theorem perform_leavesFault {turn : Turn} {s t : State} (h : perform turn s = .next t)
    (hfault : s.fault = true) (hleft : t.fault = false) : s.rst = true ∧ t = initState s := by
  obtain henv | ⟨-, rfl | ⟨code, i, -, -, hexec⟩⟩ := perform_next h
  · simp [environmentTurn_fault henv, hfault] at hleft
  · simp [hfault] at hleft
  · by_cases hi : i = .init
    · subst hi
      obtain ⟨hrst, hinit⟩ | ⟨-, rfl⟩ := whenEnabled_eq_next.1 hexec
      · cases hinit
        exact ⟨hrst, rfl⟩
      · simp [hfault] at hleft
    · rw [exec_of_fault hi hfault] at hexec
      cases hexec
      simp [hfault] at hleft

/-! ## Fault entry (R201) -/

/-- Under FATAL the byte `b` at line-in is a receive error in `s`, and `t` is the fault state it leads to. -/
inductive EntersFault (b : Byte) (s : State) : State → Prop
  /-- R147 -/
  | checksum (hpolicy : s.cfg.errPolicy = .fatal) (hst : s.rxState = .cksum) :
    EntersFault b s (raiseFault .checksum s.rxLen b s.rxAcc (setSticky stickyChecksum (takeByte s)))
  /-- R144 -/
  | length (hpolicy : s.cfg.errPolicy = .fatal) (hst : s.rxState = .len) :
    EntersFault b s (raiseFault .length b b 0 (setSticky stickyLength (takeByte s)))

theorem EntersFault.policy {b : Byte} {s t : State} (h : EntersFault b s t) :
    t.cfg.errPolicy = .fatal := by
  cases h <;> assumption

/-- The byte in error is taken, and the fault record and `err_sticky` are written; nothing else is. -/
theorem EntersFault.frame {b : Byte} {s t : State} (h : EntersFault b s t) :
    t = { s with
      lineIn := s.lineIn.tail, fault := true, faultCause := t.faultCause, faultLen := t.faultLen
      faultByte := b, faultCalc := t.faultCalc, errSticky := t.errSticky } := by
  cases h <;> rfl

/-- What the fault record and `err_sticky` say of each cause. -/
theorem EntersFault.record {b : Byte} {s t : State} (h : EntersFault b s t) :
    (t.faultCause = .checksum ∧ t.errSticky = s.errSticky ||| 0b01 ∧ t.rxState = .cksum ∧
      t.faultLen = t.rxLen ∧ t.faultCalc = t.rxAcc) ∨
    (t.faultCause = .length ∧ t.errSticky = s.errSticky ||| 0b10 ∧ t.rxState = .len ∧
      t.faultLen = t.faultByte ∧ t.faultCalc = 0) := by
  cases h with
  | checksum _ hst => exact .inl ⟨rfl, rfl, hst, rfl, rfl⟩
  | length _ hst => exact .inr ⟨rfl, rfl, hst, rfl, rfl⟩

theorem lenBad_entersFault {b : Byte} {s : State} (hst : s.rxState = .len) (hfault : s.fault = false)
    (h : (lenBad b s).fault = true) : EntersFault b s (lenBad b s) := by
  cases hpolicy : s.cfg.errPolicy with
  | fatal => rw [lenBad_of_fatal hpolicy]; exact .length hpolicy hst
  | dropResync => simp [lenBad_of_dropResync hpolicy, hfault] at h

theorem cksumBad_entersFault {b : Byte} {s : State} (hst : s.rxState = .cksum)
    (hfault : s.fault = false) (h : (cksumBad b s).fault = true) : EntersFault b s (cksumBad b s) := by
  cases hpolicy : s.cfg.errPolicy with
  | fatal => rw [cksumBad_of_fatal hpolicy]; exact .checksum hpolicy hst
  | dropResync => simp [cksumBad_of_dropResync hpolicy, hfault] at h

theorem payloadByte_fault {b : Byte} {s t : State} (h : payloadByte b s = .next t) :
    t.fault = s.fault := by
  obtain ⟨-, rfl⟩ := payloadByte_next h
  rfl

theorem pushFrame_fault {s t : State} (h : pushFrame s = .next t) : t.fault = s.fault := by
  obtain ⟨-, rfl⟩ := pushFrame_next h
  rfl

/-- Of RXF's rows only the two errors enter the fault state, on the byte offered (R144, R147). -/
theorem meaning_rxf_entersFault {i : Instr} {s t : State} (hi : instrFormat i = .rxf)
    (henabled : enabled i s = true) (h : meaning i s = .next t) (hfault : s.fault = false)
    (hentered : t.fault = true) : ∃ b rest, s.lineIn = b :: rest ∧ EntersFault b s t := by
  have hkept (heq : t.fault = s.fault) : False := by simp [heq, hfault] at hentered
  cases i <;> cases hi <;> simp only [meaning] at h
  case rxLenBad b =>
    simp only [enabled, Bool.and_eq_true, awaitByte_iff] at henabled
    obtain ⟨⟨⟨-, hst, rest, hline⟩, -⟩, -⟩ := henabled
    cases h
    exact ⟨b, rest, hline, lenBad_entersFault hst hfault hentered⟩
  case rxCksumBad b =>
    simp only [enabled, Bool.and_eq_true, awaitByte_iff] at henabled
    obtain ⟨⟨-, hst, rest, hline⟩, -⟩ := henabled
    cases h
    exact ⟨b, rest, hline, cksumBad_entersFault hst hfault hentered⟩
  case rxPayload => exact (hkept (payloadByte_fault h)).elim
  case rxPush => exact (hkept (pushFrame_fault h)).elim
  all_goals cases h; exact (hkept rfl).elim

/-! ## Fault entry in a whole frame's turn (log 7) -/

/-- From `s` to `u` nothing changes but RXF's registers and the bytes in flight. -/
def movesRxf (s u : State) : Prop :=
  u = { s with
    lineIn := u.lineIn, rxState := u.rxState, rxLen := u.rxLen, rxCnt := u.rxCnt, rxAcc := u.rxAcc
    rxBuf := u.rxBuf }

theorem movesRxf_refl (s : State) : movesRxf s s := rfl

theorem movesRxf_trans {s u v : State} (hsu : movesRxf s u) (huv : movesRxf u v) : movesRxf s v := by
  rw [movesRxf] at hsu huv ⊢
  rw [huv, hsu]

theorem movesRxf_lenData (len : Byte) (s : State) : movesRxf s (lenData len (huntStart s)) := rfl

/-- The payload bytes of a frame move RXF to the checksum byte (R145). -/
theorem insideFrame_receiveBytes {p : List Byte} {s u : State} (h : insideFrame p.length s)
    (hu : receiveBytes p s = .next u) : insideFrame 0 u ∧ movesRxf s u := by
  induction p generalizing s with
  | nil => cases hu; exact ⟨h, movesRxf_refl _⟩
  | cons b p ih =>
    obtain ⟨v, hv, hrest⟩ := andThen_eq_next.1 hu
    have hmoves : movesRxf s v := by
      obtain ⟨hrun, ⟨hst, -⟩ | ⟨-, hn⟩⟩ := h
      · have hbyte : payloadByte b s = .next v := by simpa [receiveByte, hrun, hst] using hv
        obtain ⟨-, rfl⟩ := payloadByte_next hbyte
        rfl
      · cases hn
    obtain ⟨hinside, hmoves'⟩ := ih (insideFrame_receiveByte h hv).1 hrest
    exact ⟨hinside, movesRxf_trans hmoves hmoves'⟩

theorem receiveByte_cksum_entersFault {c : Byte} {s t : State} (h : insideFrame 0 s)
    (ht : receiveByte c s = .next t) (hentered : t.fault = true) : EntersFault c s t := by
  obtain ⟨hrun, ⟨-, hpos, -⟩ | ⟨hst, -⟩⟩ := h
  · cases hpos
  have hfault := (running_iff.1 hrun).2
  by_cases hc : c = s.rxAcc
  · rw [hc, receiveByte_goodCksum hrun hst] at ht
    cases ht
    simp [cksumOk, hfault] at hentered
  · rw [receiveByte_wrongCksum hrun hst hc] at ht
    cases ht
    exact cksumBad_entersFault hst hfault hentered

/-- The push after a frame neither enters the fault state nor happens in it (R148, R202). -/
theorem eq_of_pushHeld_of_fault {s t : State} (h : pushHeld s = .next t) (hfault : t.fault = true) :
    t = s := by
  obtain ⟨hrun, -, -, hpush⟩ | rfl := pushHeld_next h
  · rw [pushFrame_fault hpush, (running_iff.1 hrun).2] at hfault
    cases hfault
  · rfl

/-- A DATA frame can enter the fault state at its checksum byte alone. -/
theorem dataFrame_entersFault {len c : Byte} {p : List Byte} {s t : State} (hrun : running s = true)
    (hst : s.rxState = .hunt) (hlegal : legalLen s.cfg.mtu len = true) (hlen : p.length = len.toNat)
    (h : receiveBytes (dataFrame len p c) s = .next t) (hentered : t.fault = true) :
    ∃ u, movesRxf s u ∧ EntersFault c u t := by
  have hlength := receiveByte_legalLen (s := huntStart s) hrun rfl hlegal
  rw [dataFrame, receiveBytes_cons, receiveByte_start hrun hst, andThen_next, receiveBytes_cons,
    hlength, andThen_next, receiveBytes_append] at h
  obtain ⟨u, hu, hc⟩ := andThen_eq_next.1 h
  rw [receiveBytes_singleton] at hc
  have hpos : 0 < len.toNat := Nat.zero_lt_of_lt (legalLen_iff.1 hlegal).1
  have hinside : insideFrame p.length (lenData len (huntStart s)) :=
    hlen ▸ insideFrame_lenData hrun hpos
  obtain ⟨hend, hmoves⟩ := insideFrame_receiveBytes hinside hu
  exact ⟨u, movesRxf_trans (movesRxf_lenData len s) hmoves,
    receiveByte_cksum_entersFault hend hc hentered⟩

/-- A frame with an illegal length byte can enter the fault state at that byte. -/
theorem badlenFrame_entersFault {len : Byte} {s t : State} (hrun : running s = true)
    (hst : s.rxState = .hunt) (hne : len ≠ 0) (hillegal : legalLen s.cfg.mtu len = false)
    (h : receiveBytes [startByte, len] s = .next t) (hentered : t.fault = true) :
    ∃ u, movesRxf s u ∧ EntersFault len u t := by
  rw [receiveBytes_badlen hrun hst hne hillegal] at h
  cases h
  exact ⟨huntStart s, rfl, lenBad_entersFault (s := huntStart s) rfl (running_iff.1 hrun).2 hentered⟩

/-- A frame's turn enters the fault state at one byte, before which it has moved RXF only. -/
theorem meaning_wire_entersFault {i : Instr} {s t : State} (hi : instrFormat i = .wire)
    (henabled : enabled i s = true) (h : meaning i s = .next t) (hentered : t.fault = true) :
    ∃ b u, movesRxf s u ∧ EntersFault b u t := by
  cases i <;> cases hi <;>
    simp only [enabled, Bool.and_eq_true, awaitFrame_iff, beq_iff_eq, decide_eq_true_eq] at henabled
  case ctrl =>
    obtain ⟨hrun, hst, -⟩ := henabled
    rw [meaning, receiveBytes_ctrl hrun hst] at h
    cases h
    simp [lenCtrl, huntStart, (running_iff.1 hrun).2] at hentered
  case data len p c =>
    obtain ⟨⟨⟨hrun, hst, -⟩, hlegal⟩, hlen⟩ := henabled
    obtain ⟨u, hu, hpush⟩ := andThen_eq_next.1 h
    obtain rfl := eq_of_pushHeld_of_fault hpush hentered
    exact ⟨c, dataFrame_entersFault hrun hst hlegal hlen hu hentered⟩
  case badlenShort =>
    obtain ⟨hrun, hst, -⟩ := henabled
    exact ⟨1, badlenFrame_entersFault hrun hst (by decide) (legalLen_one _) h hentered⟩
  case badlenLong len =>
    obtain ⟨⟨hrun, hst, -⟩, hlong⟩ := henabled
    exact ⟨len, badlenFrame_entersFault hrun hst (ne_zero_of_mtu_lt hlong) (legalLen_of_mtu_lt hlong)
      h hentered⟩

/-! ## Fault entry in any turn -/

/-- RXF moves from `s` to `u`, where the byte `b` enters the fault state; outside a whole frame's turn `u` is `s`,
and `b` is the byte offered. -/
def faultEntry (ofFrame : Prop) (b : Byte) (s u t : State) : Prop :=
  movesRxf s u ∧ EntersFault b u t ∧ (¬ ofFrame → u = s ∧ ∃ rest, s.lineIn = b :: rest)

/-- Only RXF's instructions, byte by byte or over a frame, enter the fault state. -/
theorem exec_faultEntry {i : Instr} {s t : State} (h : exec i s = .next t) (hfault : s.fault = false)
    (hentered : t.fault = true) : ∃ b u, faultEntry (instrFormat i = .wire) b s u t := by
  have hkept (heq : t.fault = s.fault) : False := by simp [heq, hfault] at hentered
  rw [exec_eq_whenEnabled] at h
  obtain ⟨henabled, hmeaning⟩ | ⟨-, rfl⟩ := whenEnabled_eq_next.1 h
  · cases hi : instrFormat i with
    | wire =>
      obtain ⟨b, u, hmoves, henters⟩ := meaning_wire_entersFault hi henabled hmeaning hentered
      exact ⟨b, u, hmoves, henters, fun hother => absurd rfl hother⟩
    | rxf =>
      obtain ⟨b, rest, hline, henters⟩ :=
        meaning_rxf_entersFault hi henabled hmeaning hfault hentered
      exact ⟨b, s, movesRxf_refl s, henters, fun _ => ⟨rfl, rest, hline⟩⟩
    | txf => exact (hkept (by rw [(meaning_txfStep hi hmeaning).frame])).elim
    | host => exact (hkept (by rw [(meaning_hostStep hi hmeaning).frame])).elim
    | rst =>
      obtain rfl := eq_init_of_instrFormat hi
      cases hmeaning
      simp at hentered
  · exact (hkept rfl).elim

theorem wire_of_decode {c : Ctx} {code : Code} {i : Instr} (h : decode c code = .ok i)
    (hi : instrFormat i = .wire) : ∃ bytes, code = .wire bytes := by
  cases code with
  | wire bytes => exact ⟨bytes, rfl⟩
  | rxf w => simp [instrFormat_of_decodeRxf h] at hi
  | txf w => simp [instrFormat_of_decodeTxf h] at hi
  | host op r => simp [instrFormat_of_decodeHost h] at hi
  | rst w =>
    simp only [decode] at h
    split at h <;> cases h
    cases hi

theorem eq_frame_of_fetchCode {turn : Turn} {s : State} {bytes : List Byte}
    (h : fetchCode turn s = some (.wire bytes)) : turn = .frame := by
  unfold fetchCode at h
  split at h
  · cases h
  cases turn <;> simp only [rxfCode, hostCode] at h
  case frame => rfl
  case rxf => split at h <;> simp at h
  case host => split at h <;> simp at h
  all_goals cases h

theorem perform_faultEntry {turn : Turn} {s t : State} (h : perform turn s = .next t)
    (hfault : s.fault = false) (hentered : t.fault = true) :
    ∃ b u, faultEntry (turn = .frame) b s u t := by
  obtain henv | ⟨-, rfl | ⟨code, i, hcode, hdecode, hexec⟩⟩ := perform_next h
  · simp [environmentTurn_fault henv, hfault] at hentered
  · simp [hfault] at hentered
  · obtain ⟨b, u, hmoves, henters, hown⟩ := exec_faultEntry hexec hfault hentered
    refine ⟨b, u, hmoves, henters, fun hturn => hown fun hi => hturn ?_⟩
    obtain ⟨bytes, rfl⟩ := wire_of_decode hdecode hi
    exact eq_frame_of_fetchCode hcode

/-! ## Two ends after a common reset release (R210, R225) -/

theorem reset_endInv : EndInv State.reset := by
  refine endInv_of_recordClear ?_ ?_ trivial ?_ ⟨rfl, rfl, rfl, rfl, fun _ => rfl⟩ rfl
  · simp [buffersOk, State.reset]
  · simp [queuesOk, State.reset]
  · exact senderOk_iff_senderRow.2 ⟨.inl rfl, rfl, by simp [State.reset]⟩

/-- Nothing is in flight and TXF is about to emit a CTRL frame, which carries no packet. -/
theorem direction_reset : direction [] State.reset State.reset := by
  have houtgoing : outgoing State.reset = [] := outgoing_of_txIdx_zero (s := State.reset) rfl
  refine direction_iff.2 ⟨rfl, List.not_mem_nil, ?_, ?_⟩
  · rw [emitPhase_of_txIdx_zero (s := State.reset) rfl]
    rfl
  · rw [houtgoing]
    rfl

end Sys2Proof.Machine

open Sys2Proof Sys2Proof.Machine

/-- Settles O41: RXF enters the fault state at one byte, and only a whole frame's turn takes bytes before it. -/
theorem aFaultIsPrecise : Obligations.AFaultIsPrecise := by
  intro s t hstep hfault hentered
  obtain ⟨b, u, hmoves, henters, hown⟩ :=
    perform_faultEntry (s := afterFetch s) hstep hfault hentered
  have hsticky : u.errSticky = s.errSticky := by rw [hmoves]; rfl
  refine ⟨henters.policy, hsticky ▸ henters.record, ?_, fun hturn => ?_⟩
  · rw [henters.frame, hmoves]
    rfl
  · obtain ⟨rfl, rest, hline⟩ := hown hturn
    rw [henters.frame]
    exact ⟨rfl, rfl, rfl, rfl, rfl, by rw [hline]; exact hline⟩

/-- Settles O40: nothing but reset is enabled in a block that does not run, and its handshakes are 0. -/
theorem theFaultedBlockIsQuiescent : Obligations.TheFaultedBlockIsQuiescent := by
  intro s hfault
  have hrun := not_running_of_fault hfault
  refine ⟨fun i hi => exec_of_fault hi hfault, ?_, ?_, ?_, ?_⟩
  · simp [linReady, hrun]
  · simp [loutValid, hrun]
  · simp [txReady, hrun]
  · simp [rxValid, hrun]

/-- Settles O42: the turn is an executed reset, whose values are those of R220. -/
theorem onlyResetLeavesTheFaultState : Obligations.OnlyResetLeavesTheFaultState := by
  intro s t hstep hfault hleft
  obtain ⟨hrst, rfl⟩ := perform_leavesFault (s := afterFetch s) hstep hfault hleft
  exact ⟨hrst, rfl, rfl, rfl, rfl, rfl⟩

/-- Settles O57: each end meets its invariant, and the two directions are the same. -/
theorem theResetLinkMeetsTheLinkInvariant : Obligations.TheResetLinkMeetsTheLinkInvariant :=
  linkInv_iff.2 ⟨⟨reset_endInv, rfl, rfl⟩, ⟨reset_endInv, rfl, rfl⟩, direction_reset, direction_reset⟩

end

section
/-! PROOFS. The family 70_reset_and_hazards: the credit total of a direction of an ideal line (R227), one clock
cycle as one interleaving of its turns (R123, R234), and the state and outputs right after reset (R220, R221). -/

namespace Sys2Proof.Machine

/-! ## The tokens in the beginning of a frame -/

/-- Up to its checksum byte a DATA frame has no token (R70, R145). -/
theorem parse_beforeCksum {mtu : Nat} {len : Byte} {p : List Byte} (hlegal : legalLen mtu len = true)
    (hlen : p.length = len.toNat) :
    parse mtu .hunt (startByte :: len :: p) = ([], .cksum len p) := by
  have hmin := (legalLen_iff.1 hlegal).1
  have hstart : phaseByte mtu .hunt startByte = (.len, none) := rfl
  have hpayload : parse mtu (.body len []) p = ([], .cksum len p) :=
    parse_payload (List.ne_nil_of_length_pos (by omega)) (by simpa using hlen)
  simp only [parse, hstart, phaseByte_legalLen hlegal, hpayload, Option.toList_none, List.append_nil]

/-- A stream with no token has none in its beginning. -/
theorem parse_take_eq_nil {mtu : Nat} {ph : Phase} {bs : List Byte} (n : Nat)
    (h : (parse mtu ph bs).1 = []) : (parse mtu ph (bs.take n)).1 = [] := by
  rw [← List.take_append_drop n bs, parse_append] at h
  exact (List.append_eq_nil_iff.1 h).1

/-- A packet's frame has its one token at its last byte. -/
theorem parse_take_encodePacket {p : Params} {k : Packet} {n : Nat}
    (hfits : Packet.fits p.mtu k = true) (hn : n ≤ (encodePacket k).length) :
    (parse p.mtu .hunt ((encodePacket k).take n)).1 =
      if n = (encodePacket k).length then [.data (frameRecord k)] else [] := by
  split
  next hwhole => rw [hwhole, List.take_length, parse_encodePacket hfits]
  next hpart =>
    have hsplit : encodePacket k = (startByte :: frameLen k :: framePayload k) ++
        [cksumFrame (frameLen k) (framePayload k)] := rfl
    have hbefore : n ≤ (startByte :: frameLen k :: framePayload k).length := by
      rw [hsplit, List.length_append, List.length_singleton] at hn hpart
      omega
    rw [hsplit, List.take_append_of_le_length hbefore]
    exact parse_take_eq_nil n (congrArg Prod.fst
      (parse_beforeCksum (legalLen_frameLen hfits) (framePayload_length_eq_frameLen hfits)))

/-! ## What a turn sends -/

/-- The tokens of the bytes that a turn of the sending end from `s` to `t` hands to line-out. -/
def sentTokens (s t : State) : List Token := (parse s.cfg.mtu (emitPhase s) t.lineOut).1

theorem sentTokens_of_silent {s t : State} (hout : t.lineOut = []) : sentTokens s t = [] := by
  rw [sentTokens, hout, parse_nil]

/-- Bytes put on the line carry their tokens to the receiving end. -/
theorem lineTokens_feed {s t peer : State} (hmtu : s.cfg.mtu = peer.cfg.mtu)
    (hphase : linePhase peer = emitPhase s) :
    lineTokens (feed t.lineOut peer) = lineTokens peer ++ sentTokens s t := by
  rw [sentTokens, ← hphase, hmtu]
  exact congrArg Prod.fst (parse_append _ _ _ _)

theorem sentTokens_ctrlEmit_of_start {s : State} (hout : s.lineOut = []) (hidx : s.txIdx = 0) :
    sentTokens s (ctrlEmit s) = [] := by
  rw [sentTokens, emitPhase_of_txIdx_zero hidx, ctrlEmit_of_start hidx]
  simp only [emit_lineOut, hout, List.nil_append]
  rfl

theorem sentTokens_ctrlEmit_of_end {s : State} (hout : s.lineOut = []) (hst : s.txState = .ctrl)
    (hidx : s.txIdx = 1) : sentTokens s (ctrlEmit s) = [.ctrl] := by
  rw [sentTokens, emitPhase_of_ctrl_one hst hidx, ctrlEmit_of_end (by simp [hidx])]
  simp only [emit_lineOut, hout, List.nil_append]
  rfl

/-- TX_XMIT's byte completes the DATA token where it is the frame's last (R168). -/
theorem sentTokens_of_xmit {s t : State} {b : Byte} (hst : s.txState = .xmit)
    (hidx : s.txIdx.toNat < s.txFlen.toNat) (hcarries : carriesFrame s)
    (hb : s.txBuf[s.txIdx.toNat]? = some b) (hout : t.lineOut = [b]) :
    ∃ f, sentTokens s t = if s.txIdx + 1 = s.txFlen then [.data f] else [] := by
  obtain ⟨k, hfits, hframe, hlen⟩ := hcarries
  have hemitted : emitted s = (encodePacket k).take s.txIdx.toNat := by
    simp only [emitted, hst, hframe]
  have hbyte : (encodePacket k)[s.txIdx.toNat]? = some b := by
    rw [← hframe, heldFrame, List.getElem?_take_of_lt hidx, hb]
  have hnext : emitted s ++ t.lineOut = (encodePacket k).take (s.txIdx.toNat + 1) := by
    rw [hemitted, hout, List.take_add_one, hbyte]
    rfl
  have hnone : (parse s.cfg.mtu .hunt (emitted s)).1 = [] := by
    rw [hemitted, parse_take_encodePacket hfits (by omega), if_neg (by omega)]
  have hsent : sentTokens s t = (parse s.cfg.mtu .hunt (emitted s ++ t.lineOut)).1 := by
    rw [parse_append, hnone, List.nil_append]
    rfl
  have hlast : s.txIdx.toNat + 1 = (encodePacket k).length ↔ s.txIdx + 1 = s.txFlen := by
    rw [← hlen]
    bv_omega
  refine ⟨frameRecord k, ?_⟩
  rw [hsent, hnext, parse_take_encodePacket hfits (by omega)]
  exact if_congr hlast rfl rfl

/-! ## The credit total by its ends -/

/-- The credit units of TXF as a sender: a released frame, and READY (R227). -/
def sendUnits (s : State) : Nat := unit (released s) + unit (sigPeek .ready s.sig)

/-- The credit units of TXF as a replier: ACK, and a reply being emitted (R227). -/
def replyUnits (s : State) : Nat := unit (sigPeek .ack s.sig) + unit (replying s)

/-- What a direction's credit total counts at its sending end. -/
def sendCredit (s : State) : Nat := sendUnits s + ctrlArrived s

/-- What a direction's credit total counts at its receiving end. -/
def replyCredit (s : State) : Nat := replyUnits s + dataArrived s

theorem creditTotal_eq (a b : State) : creditTotal a b = sendCredit a + replyCredit b := by
  rw [creditTotal, sendCredit, replyCredit, sendUnits, replyUnits]
  omega

theorem ctrlArrived_eq (s : State) : ctrlArrived s = (lineTokens s).count .ctrl := rfl

theorem dataArrived_eq (s : State) :
    dataArrived s = (dataRecords (lineTokens s)).length + (pushRecord s).length := by
  have hpush : unit (s.rxState == .push) = (pushRecord s).length := by
    by_cases hst : s.rxState = .push <;> simp [unit, pushRecord, hst]
  rw [dataArrived, hpush, lineTokens]

theorem sendCredit_feed {s t peer : State} (hmtu : s.cfg.mtu = peer.cfg.mtu)
    (hphase : linePhase peer = emitPhase s) :
    sendCredit (feed t.lineOut peer) = sendCredit peer + (sentTokens s t).count .ctrl := by
  rw [sendCredit, ctrlArrived_eq, lineTokens_feed hmtu hphase, List.count_append, ← Nat.add_assoc]
  rfl

theorem replyCredit_feed {s t peer : State} (hmtu : s.cfg.mtu = peer.cfg.mtu)
    (hphase : linePhase peer = emitPhase s) :
    replyCredit (feed t.lineOut peer) =
      replyCredit peer + (dataRecords (sentTokens s t)).length := by
  have hdata : dataArrived (feed t.lineOut peer) =
      dataArrived peer + (dataRecords (sentTokens s t)).length := by
    rw [dataArrived_eq, lineTokens_feed hmtu hphase, dataRecords_append, List.length_append,
      Nat.add_right_comm, dataArrived_eq]
    rfl
  rw [replyCredit, hdata, ← Nat.add_assoc]
  rfl

theorem SameReceiver.ctrlArrived_eq {s t : State} (h : SameReceiver s t) :
    ctrlArrived t = ctrlArrived s :=
  congrArg (List.count Token.ctrl) h.lineTokens_eq

theorem SameReceiver.dataArrived_eq {s t : State} (h : SameReceiver s t) :
    dataArrived t = dataArrived s := by
  rw [dataArrived, dataArrived, h.phaseOf_eq, h.cfg, h.lineIn, h.rxState]

/-! ## Signals -/

theorem sigPeek_sigConsumed (x : Signal) (set sig : BitVec 3) :
    sigPeek x (sigConsumed set sig) = (sigPeek x sig && !sigPeek x set) := by
  cases x <;> revert set sig <;> decide

theorem sigPeek_sigSet (x y : Signal) (sig : BitVec 3) :
    sigPeek x (sigSet y sig) = (sigPeek x sig || decide (x = y)) := by
  cases x <;> cases y <;> revert sig <;> decide

theorem sigPeek_sigSet_same (x : Signal) (sig : BitVec 3) : sigPeek x (sigSet x sig) = true := by
  simp [sigPeek_sigSet]

theorem sigPeek_sigSet_of_ne {x y : Signal} (sig : BitVec 3) (h : x ≠ y) :
    sigPeek x (sigSet y sig) = sigPeek x sig := by
  simp [sigPeek_sigSet, h]

/-! ## A turn of one end -/

/-- A credit count from `m` to `n`: it does not grow, falls by at most one, and not to 0 (R227 (a)). -/
def creditKept (m n : Nat) : Prop := n ≤ m ∧ m ≤ n + 1 ∧ (1 ≤ m → 1 ≤ n)

theorem creditKept_of_eq {m n : Nat} (h : n = m) : creditKept m n :=
  ⟨h.le, by omega, fun _ => by omega⟩

theorem creditKept_add {m n : Nat} (c : Nat) (h : creditKept m n) : creditKept (m + c) (n + c) := by
  obtain ⟨hgrow, hfall, hone⟩ := h
  exact ⟨by omega, by omega, by omega⟩

/-- A unit that becomes a set signal is lost where the signal was set before, and one unit is left (R132). -/
theorem creditKept_sigSet (x : Signal) (sig : BitVec 3) :
    creditKept (unit (sigPeek x sig) + 1) (unit (sigPeek x (sigSet x sig))) := by
  rw [sigPeek_sigSet_same]
  cases sigPeek x sig <;> simp [creditKept, unit]

/-- What a turn of one end from `s` to `t` does to the credit of the two directions it stands in, the units that
leave it on the line counted. -/
structure CreditStep (s t : State) : Prop where
  send : creditKept (sendCredit s) (sendCredit t + (dataRecords (sentTokens s t)).length)
  reply : creditKept (replyCredit s) (replyCredit t + (sentTokens s t).count .ctrl)

/-- A turn that hands over no byte. -/
theorem creditStep_silent {s t : State} (hout : t.lineOut = [])
    (hsend : creditKept (sendCredit s) (sendCredit t))
    (hreply : creditKept (replyCredit s) (replyCredit t)) : CreditStep s t := by
  constructor <;> rw [sentTokens_of_silent hout]
  · exact hsend
  · exact hreply

/-- TXF's turn moves each unit to where the next one counts it (R227). -/
theorem creditStep_of_sameReceiver {s t : State} (hsame : SameReceiver s t)
    (hsend : sendUnits t + (dataRecords (sentTokens s t)).length = sendUnits s)
    (hreply : replyUnits t + (sentTokens s t).count .ctrl = replyUnits s) : CreditStep s t := by
  constructor <;> apply creditKept_of_eq
  · rw [sendCredit, sendCredit, hsame.ctrlArrived_eq, ← hsend, Nat.add_right_comm]
  · rw [replyCredit, replyCredit, hsame.dataArrived_eq, ← hreply, Nat.add_right_comm]

theorem creditStep_silent_of_sameReceiver {s t : State} (hsame : SameReceiver s t)
    (hout : t.lineOut = []) (hsend : sendUnits t = sendUnits s)
    (hreply : replyUnits t = replyUnits s) : CreditStep s t :=
  creditStep_of_sameReceiver hsame (by rw [sentTokens_of_silent hout]; exact hsend)
    (by rw [sentTokens_of_silent hout]; exact hreply)

/-- Two states that agree in everything the credit totals and the line read. -/
structure SameCredit (s t : State) : Prop where
  cfg : t.cfg = s.cfg
  rxState : t.rxState = s.rxState
  phase : phaseOf t = phaseOf s
  lineIn : t.lineIn = s.lineIn
  txState : t.txState = s.txState
  txRet : t.txRet = s.txRet
  ready : sigPeek .ready t.sig = sigPeek .ready s.sig
  ack : sigPeek .ack t.sig = sigPeek .ack s.sig
  lineOut : t.lineOut = s.lineOut

theorem SameCredit.refl (s : State) : SameCredit s s := by
  constructor <;> rfl

theorem SameCredit.creditStep {s t : State} (h : SameCredit s t) (hout : s.lineOut = []) :
    CreditStep s t := by
  refine creditStep_silent (h.lineOut.trans hout) (creditKept_of_eq ?_) (creditKept_of_eq ?_)
  · rw [sendCredit, sendCredit, sendUnits, sendUnits, released, released, ctrlArrived, ctrlArrived,
      h.cfg, h.phase, h.lineIn, h.txState, h.txRet, h.ready]
  · rw [replyCredit, replyCredit, replyUnits, replyUnits, replying, replying, dataArrived,
      dataArrived, h.cfg, h.phase, h.lineIn, h.rxState, h.txState, h.txRet, h.ack]

theorem creditStep_refl {s : State} (hout : s.lineOut = []) : CreditStep s s :=
  (SameCredit.refl s).creditStep hout

/-! ### TXF -/

theorem released_of_xmit {s : State} (hst : s.txState = .xmit) : released s = true := by
  simp [released, hst]

theorem released_of_ctrl {s : State} (hst : s.txState = .ctrl) :
    released s = decide (s.txRet = .xmit) := by
  simp [released, hst, Bool.beq_eq_decide_eq]

theorem released_of_retState {ret : TxRet} {s : State} (hst : s.txState = retState ret) :
    released s = decide (ret = .xmit) := by
  cases ret <;> simp [released, hst, retState]

theorem released_of_idle {s : State} (hctrl : s.txState ≠ .ctrl) (hxmit : s.txState ≠ .xmit) :
    released s = false := by
  simp [released, hctrl, hxmit]

theorem replying_of_ctrl {s : State} (hst : s.txState = .ctrl) (hret : s.txRet ≠ .suWait) :
    replying s = true := by
  simp [replying, hst, hret]

theorem replying_of_not_ctrl {s : State} (hst : s.txState ≠ .ctrl) : replying s = false := by
  simp [replying, hst]

theorem replying_of_retState {ret : TxRet} {s : State} (hst : s.txState = retState ret) :
    replying s = false :=
  replying_of_not_ctrl (by rw [hst]; cases ret <;> simp [retState])

/-- The second byte of a CTRL frame turns the reply into a CTRL frame on the line (R161). -/
theorem ctrlEmit_creditStep {s : State} (hs : Undisturbed s) (hpast : pastStartup s)
    (hst : s.txState = .ctrl) : CreditStep s (ctrlEmit s) := by
  have hrow := senderRow_of_endInv hs.inv
  simp only [senderRow, hst] at hrow
  obtain ⟨hidx | hidx, -⟩ := hrow
  · refine creditStep_of_sameReceiver (ctrlEmit_sameReceiver s) ?_ ?_ <;>
      rw [sentTokens_ctrlEmit_of_start hs.drained hidx, ctrlEmit_of_start hidx] <;> rfl
  · obtain ⟨-, hret⟩ := hpast
    refine creditStep_of_sameReceiver (ctrlEmit_sameReceiver s) ?_ ?_ <;>
      rw [sentTokens_ctrlEmit_of_end hs.drained hst hidx, ctrlEmit_of_end (by simp [hidx])]
    · rw [sendUnits, released_of_retState rfl, sendUnits, released_of_ctrl hst]
      rfl
    · rw [replyUnits, replying_of_retState rfl, replyUnits, replying_of_ctrl hst (hret hst)]
      rfl

/-- Between T_CHECK, T_WAIT1 and T_GATE no unit moves while the signals stay. -/
theorem creditStep_of_idle {s t : State} (hsame : SameReceiver s t) (hout : t.lineOut = [])
    (hsig : t.sig = s.sig) (hs : s.txState ≠ .ctrl ∧ s.txState ≠ .xmit)
    (ht : t.txState ≠ .ctrl ∧ t.txState ≠ .xmit) : CreditStep s t := by
  obtain ⟨hsctrl, hsxmit⟩ := hs
  obtain ⟨htctrl, htxmit⟩ := ht
  refine creditStep_silent_of_sameReceiver hsame hout ?_ ?_
  · rw [sendUnits, sendUnits, released_of_idle hsctrl hsxmit, released_of_idle htctrl htxmit, hsig]
  · rw [replyUnits, replyUnits, replying_of_not_ctrl hsctrl, replying_of_not_ctrl htctrl, hsig]

theorem checkEmpty_creditStep {s : State} (hst : s.txState = .check) (hout : s.lineOut = []) :
    CreditStep s (checkEmpty s) :=
  creditStep_of_idle (by constructor <;> rfl) hout rfl (by simp [hst]) (by simp [checkEmpty])

theorem checkDeq_creditStep {s t : State} (hst : s.txState = .check) (hout : s.lineOut = [])
    (h : checkDeq s = .next t) : CreditStep s t := by
  have hsame := checkDeq_sameReceiver h
  obtain ⟨-, rfl⟩ | ⟨k, rest, -, -, -, rfl⟩ := checkDeq_next h
  · exact creditStep_refl hout
  · exact creditStep_of_idle hsame hout rfl (by simp [hst]) (by simp)

/-- A wait for signals keeps the units where the READY it consumes becomes a released frame and the ACK a reply
(R166, R167). -/
theorem creditStep_of_wait {s t : State} (hsame : SameReceiver s t) (hout : t.lineOut = [])
    (hctrl : s.txState ≠ .ctrl) (hxmit : s.txState ≠ .xmit)
    (hready : unit (released t) + unit (sigPeek .ready t.sig) = unit (sigPeek .ready s.sig))
    (hreplying : replying t = sigPeek .ack s.sig) (hack : sigPeek .ack t.sig = false) :
    CreditStep s t := by
  refine creditStep_silent_of_sameReceiver hsame hout ?_ ?_
  · rw [sendUnits, hready, sendUnits, released_of_idle hctrl hxmit]
    exact (Nat.zero_add _).symm
  · rw [replyUnits, replyUnits, replying_of_not_ctrl hctrl, hack, hreplying]
    exact Nat.add_comm _ _

/-- An ACK observed becomes a reply (R166). -/
theorem wait1Observe_creditStep {s : State} (hst : s.txState = .wait1) (hout : s.lineOut = []) :
    CreditStep s (wait1Observe s) := by
  have hready : sigPeek .ready (sigConsumed waitSet s.sig) = sigPeek .ready s.sig := by
    rw [sigPeek_sigConsumed]; exact Bool.and_true _
  have hack : sigPeek .ack (sigConsumed waitSet s.sig) = false := by
    rw [sigPeek_sigConsumed]; exact Bool.and_false _
  have hsame := wait1Observe_sameReceiver s
  cases hobs : s.sig.getLsbD 1
  · rw [wait1Observe_of_no_ack hobs] at hsame ⊢
    rw [← sigPeek_ack] at hobs
    refine creditStep_of_wait hsame hout (by simp [hst]) (by simp [hst]) ?_ ?_ hack
    · rw [released_of_idle (by simp) (by simp), consumeSignals_sig, hready]
      exact Nat.zero_add _
    · rw [replying_of_not_ctrl (by simp), hobs]
  · rw [wait1Observe_of_ack hobs] at hsame ⊢
    rw [← sigPeek_ack] at hobs
    refine creditStep_of_wait hsame hout (by simp [hst]) (by simp [hst]) ?_ ?_ hack
    · rw [released_of_ctrl rfl, sendCtrl_sig, consumeSignals_sig, hready]
      exact Nat.zero_add _
    · rw [replying_of_ctrl rfl (by simp), hobs]

/-- A READY observed becomes a released frame, an ACK observed a reply (R167). -/
theorem gateObserve_creditStep {s : State} (hst : s.txState = .gate) (hout : s.lineOut = []) :
    CreditStep s (gateObserve s) := by
  have hready : sigPeek .ready (sigConsumed gateSet s.sig) = false := by
    rw [sigPeek_sigConsumed]; exact Bool.and_false _
  have hack : sigPeek .ack (sigConsumed gateSet s.sig) = false := by
    rw [sigPeek_sigConsumed]; exact Bool.and_false _
  have hreleased : unit (decide ((if s.sig.getLsbD 0 then TxRet.xmit else .gate) = .xmit)) + unit false =
      unit (sigPeek .ready s.sig) := by
    rw [sigPeek_ready]
    cases s.sig.getLsbD 0 <;> rfl
  have hret : (if s.sig.getLsbD 0 then TxRet.xmit else .gate) ≠ .suWait := by split <;> simp
  have hsame := gateObserve_sameReceiver s
  cases hobs : s.sig.getLsbD 1
  · rw [gateObserve_of_no_ack hobs] at hsame ⊢
    rw [← sigPeek_ack] at hobs
    refine creditStep_of_wait hsame hout (by simp [hst]) (by simp [hst]) ?_ ?_ hack
    · rw [released_of_retState rfl, consumeSignals_sig, hready, hreleased]
    · rw [replying_of_retState rfl, hobs]
  · rw [gateObserve_of_ack hobs] at hsame ⊢
    rw [← sigPeek_ack] at hobs
    refine creditStep_of_wait hsame hout (by simp [hst]) (by simp [hst]) ?_ ?_ hack
    · rw [released_of_ctrl rfl, sendCtrl_sig, consumeSignals_sig, hready, sendCtrl_txRet, hreleased]
    · rw [replying_of_ctrl rfl hret, hobs]

/-- The last byte of a DATA frame turns the released frame into a DATA frame on the line (R168). -/
theorem xmitByte_creditStep {s t : State} (hs : Undisturbed s) (hst : s.txState = .xmit)
    (h : xmitByte s = .next t) : CreditStep s t := by
  have hrow := senderRow_of_endInv hs.inv
  simp only [senderRow, hst] at hrow
  obtain ⟨hidx, -, hcarries⟩ := hrow
  have hsame := xmitByte_sameReceiver h
  obtain ⟨b, hb, ht⟩ := xmitByte_next h
  have hout : t.lineOut = [b] := by rw [ht]; split <;> simp [hs.drained]
  obtain ⟨f, hsent⟩ := sentTokens_of_xmit hst hidx hcarries hb hout
  split at ht
  next hlast =>
    rw [if_pos hlast] at hsent
    refine creditStep_of_sameReceiver hsame ?_ ?_ <;> rw [hsent, ht]
    · rw [sendUnits, sendUnits, released_of_xmit hst, released_of_idle (by simp) (by simp)]
      exact Nat.add_right_comm 0 _ 1
    · rw [replyUnits, replyUnits, replying_of_not_ctrl (by simp), replying_of_not_ctrl (by simp [hst])]
      rfl
  next hmore =>
    rw [if_neg hmore] at hsent
    refine creditStep_of_sameReceiver hsame ?_ ?_ <;> rw [hsent, ht] <;> rfl

theorem perform_txf_creditStep {s t : State} (hs : Undisturbed s) (hpast : pastStartup s)
    (h : perform .txf s = .next t) : CreditStep s t := by
  rw [perform_txf_eq (running_iff.1 hs.runs).1] at h
  obtain rfl | h := exec_next h
  · exact creditStep_refl hs.drained
  cases hst : s.txState <;> simp only [txfRow, hst] at h
  case ctrl => cases h; exact ctrlEmit_creditStep hs hpast hst
  case suWait => exact absurd hst hpast.1
  case check =>
    split at h
    · cases h; exact checkEmpty_creditStep hst hs.drained
    · exact checkDeq_creditStep hst hs.drained h
  case wait1 => cases h; exact wait1Observe_creditStep hst hs.drained
  case gate => cases h; exact gateObserve_creditStep hst hs.drained
  case xmit => exact xmitByte_creditStep hs hst h

/-! ### RXF -/

theorem ReadsByte.lineTokens_eq {s t : State} {b : Byte} {rest : List Byte} (h : ReadsByte b s t)
    (hline : s.lineIn = b :: rest) :
    lineTokens s = (phaseByte s.cfg.mtu (phaseOf s) b).2.toList ++ lineTokens t := by
  have htline : t.lineIn = rest := by rw [h.lineIn, hline]; rfl
  rw [lineTokens, lineTokens, hline, parse, h.phase, h.cfg, htline]

/-- A DATA token read from the line stands in R_PUSH (R146). -/
theorem ReadsByte.dataArrived_eq {s t : State} {b : Byte} {rest : List Byte} (h : ReadsByte b s t)
    (hpush : s.rxState ≠ .push) (hline : s.lineIn = b :: rest) : dataArrived t = dataArrived s := by
  rw [Machine.dataArrived_eq, Machine.dataArrived_eq, h.record, pushRecord_of_not_push hpush,
    h.lineTokens_eq hline, dataRecords_append, List.length_append]
  simp [Nat.add_comm]

theorem phaseByte_body_token (mtu : Nat) (len : Byte) (got : List Byte) (b : Byte) :
    (phaseByte mtu (.body len got) b).2 = none := by
  unfold phaseByte
  dsimp only
  split <;> rfl

/-- READY is set with a CTRL token, and no other token sets a signal (R142). -/
theorem receiveByte_sig {s t : State} {b : Byte} (hinv : EndInv s) (hrun : running s = true)
    (hpush : s.rxState ≠ .push) (hgood : (phaseByte s.cfg.mtu (phaseOf s) b).2 ≠ some .bad)
    (h : receiveByte b s = .next t) :
    t.sig = if (phaseByte s.cfg.mtu (phaseOf s) b).2 = some .ctrl then sigSet .ready s.sig
      else s.sig := by
  obtain ⟨hstopped, -⟩ | ⟨-, hrow⟩ := receiveByte_next h
  · simp [hrun] at hstopped
  obtain ⟨hst, rfl, rfl⟩ | ⟨hst, hb, rfl⟩ | ⟨hst, rfl, rfl⟩ | ⟨hst, -, hlegal, rfl⟩ |
    ⟨hst, hzero, hillegal, -⟩ | ⟨hst, hstored⟩ | ⟨hst, rfl, rfl⟩ | ⟨hst, hb, -⟩ | ⟨hst, -⟩ := hrow
  · rw [phaseOf_hunt hst]; rfl
  · rw [phaseOf_hunt hst, phaseByte, if_neg hb]; rfl
  · rw [phaseOf_len hst]; rfl
  · rw [phaseOf_len hst, phaseByte_legalLen hlegal]; rfl
  · exact absurd (by rw [phaseOf_len hst, phaseByte, if_neg hzero, if_neg (by simp [hillegal])]) hgood
  · obtain ⟨-, rfl⟩ := payloadByte_next hstored
    rw [phaseOf_payload hst, phaseByte_body_token]
    rfl
  · rw [phaseByte_cksum _ hinv hst, if_pos rfl]; rfl
  · exact absurd (by rw [phaseByte_cksum b hinv hst, if_neg hb]) hgood
  · exact absurd hst hpush

theorem SameSender.released_eq {s t : State} (h : SameSender s t) : released t = released s := by
  rw [released, released, h.txState, h.txRet]

theorem SameSender.replying_eq {s t : State} (h : SameSender s t) : replying t = replying s := by
  rw [replying, replying, h.txState, h.txRet]

/-- A CTRL token read from the line becomes READY (R142). -/
theorem ReadsByte.creditStep_of_ctrl {s t : State} {b : Byte} {rest : List Byte}
    (h : ReadsByte b s t) (hsame : SameSender s t) (hout : s.lineOut = []) (hpush : s.rxState ≠ .push)
    (hline : s.lineIn = b :: rest) (hctrl : (phaseByte s.cfg.mtu (phaseOf s) b).2 = some .ctrl)
    (hsig : t.sig = sigSet .ready s.sig) : CreditStep s t := by
  have hcount : ctrlArrived s = ctrlArrived t + 1 := by
    rw [Machine.ctrlArrived_eq, h.lineTokens_eq hline, hctrl]
    exact List.count_cons_self
  have hset := creditKept_add (unit (released s) + ctrlArrived t) (creditKept_sigSet .ready s.sig)
  refine creditStep_silent (hsame.lineOut.trans hout) ?_ (creditKept_of_eq ?_)
  · rw [sendCredit, sendCredit, sendUnits, sendUnits, hsame.released_eq, hsig, hcount]
    convert hset using 1 <;> omega
  · rw [replyCredit, replyCredit, replyUnits, replyUnits, hsame.replying_eq, hsig,
      h.dataArrived_eq hpush hline, sigPeek_sigSet_of_ne _ (by simp)]

/-- Another byte read from the line moves no unit but a DATA frame's, to R_PUSH (R146). -/
theorem ReadsByte.creditStep_of_not_ctrl {s t : State} {b : Byte} {rest : List Byte}
    (h : ReadsByte b s t) (hsame : SameSender s t) (hout : s.lineOut = []) (hpush : s.rxState ≠ .push)
    (hline : s.lineIn = b :: rest) (hother : (phaseByte s.cfg.mtu (phaseOf s) b).2 ≠ some .ctrl)
    (hsig : t.sig = s.sig) : CreditStep s t := by
  have hnone : (phaseByte s.cfg.mtu (phaseOf s) b).2.toList.count .ctrl = 0 :=
    List.count_eq_zero_of_not_mem (by simpa using hother)
  have hcount : ctrlArrived t = ctrlArrived s := by
    rw [Machine.ctrlArrived_eq, Machine.ctrlArrived_eq, h.lineTokens_eq hline, List.count_append,
      hnone, Nat.zero_add]
  refine creditStep_silent (hsame.lineOut.trans hout) (creditKept_of_eq ?_) (creditKept_of_eq ?_)
  · rw [sendCredit, sendCredit, sendUnits, sendUnits, hsame.released_eq, hsig, hcount]
  · rw [replyCredit, replyCredit, replyUnits, replyUnits, hsame.replying_eq, hsig,
      h.dataArrived_eq hpush hline]

theorem receiveByte_creditStep {s t : State} {b : Byte} {rest : List Byte} (hs : Undisturbed s)
    (hpush : s.rxState ≠ .push) (hline : s.lineIn = b :: rest) (h : receiveByte b s = .next t) :
    CreditStep s t := by
  have hgood : (phaseByte s.cfg.mtu (phaseOf s) b).2 ≠ some .bad := by
    refine fun hbad => hs.noBad ?_
    rw [lineTokens, hline, parse, hbad]
    exact List.mem_cons_self
  have hreads := receiveByte_readsByte hs.inv hs.runs hpush hgood h
  have hsig := receiveByte_sig hs.inv hs.runs hpush hgood h
  have hsame := receiveByte_sameSender h
  split at hsig
  next hctrl => exact hreads.creditStep_of_ctrl hsame hs.drained hpush hline hctrl hsig
  next hother => exact hreads.creditStep_of_not_ctrl hsame hs.drained hpush hline hother hsig

/-- The frame pushed becomes ACK (R148). -/
theorem pushFrame_creditStep {s t : State} (hst : s.rxState = .push) (hout : s.lineOut = [])
    (h : pushFrame s = .next t) : CreditStep s t := by
  obtain ⟨-, rfl⟩ := pushFrame_next h
  have hphase : phaseOf s = .hunt := by rw [phaseOf, hst]
  have hdata : dataArrived s = dataArrived { s with rxState := .hunt } + 1 := by
    rw [dataArrived, dataArrived, hphase, hst]
    rfl
  have hset := creditKept_add (unit (replying s) + dataArrived { s with rxState := .hunt })
    (creditKept_sigSet .ack s.sig)
  refine creditStep_silent hout (creditKept_of_eq ?_) ?_
  · rw [sendCredit, sendCredit, ctrlArrived, ctrlArrived, hphase, sendUnits, sendUnits,
      sigPeek_sigSet_of_ne _ (by simp)]
    rfl
  · rw [replyCredit, replyUnits, hdata]
    convert hset using 1
    · omega
    · exact Nat.add_assoc _ _ _

theorem perform_rxf_creditStep {s t : State} (hs : Undisturbed s) (h : perform .rxf s = .next t) :
    CreditStep s t := by
  have hrst := (running_iff.1 hs.runs).1
  by_cases hst : s.rxState = .push
  · rw [perform_rxf_of_push hrst hst] at h
    obtain rfl | hpush := exec_next h
    · exact creditStep_refl hs.drained
    · exact pushFrame_creditStep hst hs.drained hpush
  · cases hline : s.lineIn with
    | nil =>
      have hcode : fetchCode .rxf s = none := by simp [fetchCode, hrst, rxfCode, hst, hline]
      rw [perform, hcode] at h
      cases h
      exact creditStep_refl hs.drained
    | cons b rest =>
      rw [perform_rxf_eq_receiveByte hs.runs hst hline] at h
      exact receiveByte_creditStep hs hst hline h

/-! ### The host channels and the inputs -/

/-- A host operation writes the queues, TXQ's signal and the record of transfers alone (R192-R197). -/
theorem HostStep.sameCredit {i : Instr} {s t : State} (hi : instrFormat i = .host)
    (h : HostStep i s t) : SameCredit s t := by
  have hmask : t.sig = s.sig ||| setMask s.cfg.errPolicy i := by
    rw [h.sig, clearMask_of_not_txf (by simp [hi]), sigNext_set]
  have hsig : t.sig = sigSet .txq s.sig ∨ t.sig = s.sig := by
    cases i <;> cases hi
    case send => exact .inl hmask
    case sendReject => exact .inr (hmask.trans BitVec.or_zero)
    case recv => exact .inr (hmask.trans BitVec.or_zero)
  have hkeeps {x : Signal} (hx : x ≠ .txq) : sigPeek x t.sig = sigPeek x s.sig := by
    obtain hset | hsame := hsig
    · rw [hset, sigPeek_sigSet_of_ne _ hx]
    · rw [hsame]
  refine ⟨?_, ?_, ?_, ?_, ?_, ?_, hkeeps (by simp), hkeeps (by simp), ?_⟩ <;> rw [h.frame]
  rfl

theorem perform_host_hostStep {s t : State} {who : BitVec 2} (hrst : s.rst = false)
    (h : perform (.host who) s = .next t) : t = s ∨ ∃ i, instrFormat i = .host ∧ HostStep i s t := by
  obtain henv | ⟨-, rfl | ⟨code, i, hcode, hdecode, hexec⟩⟩ := perform_next h
  · cases henv
  · exact .inl rfl
  · simp only [fetchCode, hrst, hostCode, Bool.false_eq_true, if_false] at hcode
    split at hcode <;> cases hcode
    have hi := instrFormat_of_decodeHost hdecode
    exact (exec_next hexec).imp_right fun hmeaning => ⟨i, hi, meaning_hostStep hi hmeaning⟩

theorem perform_host_creditStep {s t : State} {who : BitVec 2} (hs : Undisturbed s)
    (h : perform (.host who) s = .next t) : CreditStep s t := by
  obtain rfl | ⟨i, hi, hstep⟩ := perform_host_hostStep (running_iff.1 hs.runs).1 h
  · exact creditStep_refl hs.drained
  · exact (hstep.sameCredit hi).creditStep hs.drained

/-- Every turn of an ideal line, past startup (R227 (a)). -/
theorem perform_creditStep {s t : State} {turn : Turn} (hs : Undisturbed s) (hpast : pastStartup s)
    (hturn : linkTurn turn = true) (h : perform turn s = .next t) : CreditStep s t := by
  cases turn
  case rxf => exact perform_rxf_creditStep hs h
  case txf => exact perform_txf_creditStep hs hpast h
  case host => exact perform_host_creditStep hs h
  case lineOutReady => cases h; exact SameCredit.creditStep (by constructor <;> rfl) hs.drained
  case present => cases h; exact SameCredit.creditStep (by constructor <;> rfl) hs.drained
  case withdraw => cases h; exact SameCredit.creditStep (by constructor <;> rfl) hs.drained
  case hostReady => cases h; exact SameCredit.creditStep (by constructor <;> rfl) hs.drained
  case frame => cases hturn
  case offer => cases hturn
  case disturb => cases hturn
  case resetPin => cases hturn
  case setPins => cases hturn

/-! ## The credit totals of a link -/

/-- The credit totals of both directions over a turn of the link. -/
def creditsKept (l l' : Link) : Prop :=
  creditKept (creditTotal l.a l.b) (creditTotal l'.a l'.b) ∧
    creditKept (creditTotal l.b l.a) (creditTotal l'.b l'.a)

/-- The units that leave an end on the line are those that arrive at its peer. -/
theorem CreditStep.creditKept_link {s t peer : State} (h : CreditStep s t)
    (hmtu : s.cfg.mtu = peer.cfg.mtu) (hphase : linePhase peer = emitPhase s) :
    creditKept (creditTotal s peer) (creditTotal (drain t) (feed t.lineOut peer)) ∧
      creditKept (creditTotal peer s) (creditTotal (feed t.lineOut peer) (drain t)) := by
  have hsend := creditKept_add (replyCredit peer) h.send
  have hreply := creditKept_add (sendCredit peer) h.reply
  have hdrainSend : sendCredit (drain t) = sendCredit t := rfl
  have hdrainReply : replyCredit (drain t) = replyCredit t := rfl
  simp only [creditTotal_eq, sendCredit_feed hmtu hphase, replyCredit_feed hmtu hphase, hdrainSend,
    hdrainReply]
  constructor
  · convert hsend using 1; omega
  · convert hreply using 1 <;> omega

theorem linkStep_a_creditsKept {l l' : Link} {t : Turn} (h : LinkInv l) (hturn : linkTurn t = true)
    (hpast : pastStartup l.a) (hstep : linkStep .a t l = some l') : creditsKept l l' := by
  obtain ⟨⟨ha, hra, hoa⟩, -, hab, hba⟩ := linkInv_iff.1 h
  obtain ⟨a', hperform, rfl⟩ := linkStep_a_some hstep
  obtain ⟨hmtu, -, hphase, -⟩ := direction_iff.1 hab
  obtain ⟨-, hgood, -, -⟩ := direction_iff.1 hba
  exact (perform_creditStep (s := tick l.a) ⟨ha, hra, hoa, hgood⟩ hpast hturn
    hperform).creditKept_link hmtu hphase

theorem linkStep_creditsKept {l l' : Link} {side : Side} {t : Turn} (h : LinkInv l)
    (hturn : linkTurn t = true) (ha : pastStartup l.a) (hb : pastStartup l.b)
    (hstep : linkStep side t l = some l') : creditsKept l l' := by
  cases side with
  | a => exact linkStep_a_creditsKept h hturn ha hstep
  | b =>
    rw [linkStep_b_eq] at hstep
    obtain ⟨m, hm, rfl⟩ := Option.map_eq_some_iff.1 hstep
    exact (linkStep_a_creditsKept (linkInv_swapLink h) hturn hb hm).symm

/-! ## One clock cycle (R123, R234) -/

/-- An agent's turn runs the instruction it selects. -/
theorem perform_of_turnInstr {turn : Turn} {s : State} {i : Instr}
    (henv : environmentTurn turn s = none) (h : turnInstr turn s = some i) :
    perform turn s = exec i s := by
  obtain ⟨⟨code, hcode, hdecode⟩, -⟩ := turnInstr_eq_some h
  exact perform_of_decode henv hcode hdecode

/-- What one turn of a cycle does: nothing, where the old state `s` selects no instruction for it, or the instruction
that `s` selects. -/
def selectedStep (s : State) (turn : Turn) (u v : State) : Prop :=
  v = u ∨ ∃ i, turnInstr turn s = some i ∧ exec i u = .next v

/-- A cycle's first turn runs the instruction the old state `s` selects, and the rest runs from there. -/
theorem runInstrs_eq_runTurns_cons {turn : Turn} {turns : List Turn} {s u : State}
    (hturn : ∀ i, turnInstr turn s = some i → perform turn u = exec i u)
    (hrest : ∀ v, selectedStep s turn u v → runInstrs (turns.filterMap (turnInstr · s)) v =
      runTurns (turns.filter fun t => (turnInstr t s).isSome) v) :
    runInstrs ((turn :: turns).filterMap (turnInstr · s)) u =
      runTurns ((turn :: turns).filter fun t => (turnInstr t s).isSome) u := by
  cases hi : turnInstr turn s with
  | none =>
    rw [List.filterMap_cons_none (f := (turnInstr · s)) hi, List.filter_cons_of_neg (by simp [hi])]
    exact hrest u (.inl rfl)
  | some i =>
    rw [List.filterMap_cons_some (f := (turnInstr · s)) hi, List.filter_cons_of_pos (by simp [hi]),
      runInstrs, runTurns, hturn i hi]
    exact andThen_congr fun v hv => hrest v (.inr ⟨i, hi, hv⟩)

/-! ### After TXF, the host's turn -/

theorem TxfStep.txReady {i : Instr} {s t : State} (h : TxfStep i s t) (hready : txReady s = true) :
    txReady t = true := by
  have hroom := full_of_length_le (depth := s.cfg.txqDepth) (length_le_of_pop h.txq)
  rw [h.frame]
  simp only [Machine.txReady, Bool.and_eq_true, Bool.or_eq_true, Bool.not_eq_true'] at hready ⊢
  exact hready.imp_right fun hor => hor.imp_right hroom

theorem fireOp_and_of_imp {rxFire txFire txFire' : Bool} (h : txFire = true → txFire' = true) :
    fireOp rxFire txFire' &&& fireOp rxFire txFire = fireOp rxFire txFire := by
  revert rxFire txFire txFire'
  decide

/-- TXF takes no firing channel away, though its dequeue may let a further one fire. -/
theorem TxfStep.fireVector {i : Instr} {s t : State} (h : TxfStep i s t) :
    fireVector t &&& fireVector s = fireVector s := by
  have hrx : (rxValid t && t.rxReady) = (rxValid s && s.rxReady) := by rw [h.frame]; rfl
  rw [Machine.fireVector, Machine.fireVector, hrx]
  refine fireOp_and_of_imp fun hfire => ?_
  obtain ⟨hvalid, hready⟩ := Bool.and_eq_true_iff.1 hfire
  rw [h.txReady hready, h.frame]
  exact (Bool.and_true _).trans hvalid

/-- The host's operation is selected by the MTU alone (R191). -/
theorem decodeHost_congr {c c' : Ctx} (op : BitVec 2) (r : TxReq) (hmtu : c.mtu = c'.mtu) :
    decodeHost c op r = decodeHost c' op r := by
  rw [decodeHost, decodeHost, hmtu]

/-- The host's operation of the old state `s`, from a state `u` where the same channels still fire. -/
theorem perform_host_of_old {s u : State} {j : Instr} (hrst : s.rst = false) (hurst : u.rst = s.rst)
    (hchan : u.txChan = s.txChan) (hcfg : u.cfg = s.cfg)
    (hfire : fireVector u &&& fireVector s = fireVector s)
    (h : turnInstr (.host (fireVector s)) s = some j) :
    perform (.host (fireVector s)) u = exec j u := by
  obtain ⟨⟨code, hcode, hdecode⟩, -⟩ := turnInstr_eq_some h
  have hcode' : fetchCode (.host (fireVector s)) u = some code := by
    rw [← hcode]
    simp only [fetchCode, hostCode, hurst, hchan, hfire, BitVec.and_self]
  simp only [fetchCode, hrst, hostCode, Bool.false_eq_true, if_false] at hcode
  split at hcode <;> cases hcode
  exact perform_of_decode rfl hcode'
    ((decodeHost_congr _ _ (congrArg Params.mtu hcfg)).trans hdecode)

/-! ### After TXF and the host, RXF's turn -/

/-- Two states that select the same instruction for RXF (R86). -/
structure SameRxfWord (s u : State) : Prop where
  rst : u.rst = s.rst
  cfg : u.cfg = s.cfg
  rxState : u.rxState = s.rxState
  rxAcc : u.rxAcc = s.rxAcc
  lineIn : u.lineIn = s.lineIn

theorem SameRxfWord.refl (s : State) : SameRxfWord s s := by
  constructor <;> rfl

theorem SameRxfWord.trans {s u v : State} (hsu : SameRxfWord s u) (huv : SameRxfWord u v) :
    SameRxfWord s v :=
  ⟨huv.rst.trans hsu.rst, huv.cfg.trans hsu.cfg, huv.rxState.trans hsu.rxState,
    huv.rxAcc.trans hsu.rxAcc, huv.lineIn.trans hsu.lineIn⟩

theorem TxfStep.sameRxfWord {i : Instr} {s t : State} (h : TxfStep i s t) : SameRxfWord s t := by
  constructor <;> rw [h.frame]

theorem HostStep.sameRxfWord {i : Instr} {s t : State} (h : HostStep i s t) : SameRxfWord s t := by
  constructor <;> rw [h.frame]

/-- RXF's row is selected by the MTU and the accumulator (R86). -/
theorem decodeRxf_congr {c c' : Ctx} (st : BitVec 3) (b : Byte) (hmtu : c.mtu = c'.mtu)
    (hacc : c.rxAcc = c'.rxAcc) : decodeRxf c st b = decodeRxf c' st b := by
  obtain ⟨mtu, acc, timerZero, txqEmpty⟩ := c
  cases hmtu
  cases hacc
  rfl

/-- RXF's word, and the conditions it is decoded under, read nothing else. -/
theorem perform_rxf_of_old {s u : State} {j : Instr} (hrst : s.rst = false) (hsame : SameRxfWord s u)
    (h : turnInstr .rxf s = some j) : perform .rxf u = exec j u := by
  obtain ⟨⟨code, hcode, hdecode⟩, -⟩ := turnInstr_eq_some h
  have hfetch : fetchCode .rxf s = rxfCode s := by simp [fetchCode, hrst]
  have hcode' : fetchCode .rxf u = some code := by
    rw [← hcode]
    simp only [fetchCode, rxfCode, hsame.rst, hsame.rxState, hsame.lineIn]
  obtain ⟨w, rfl⟩ : ∃ w, code = .rxf w := by
    rw [hfetch, rxfCode] at hcode
    split at hcode
    · cases hcode; exact ⟨_, rfl⟩
    · obtain ⟨b, -, rfl⟩ := Option.map_eq_some_iff.1 hcode
      exact ⟨_, rfl⟩
  exact perform_of_decode rfl hcode'
    ((decodeRxf_congr _ _ (congrArg Params.mtu hsame.cfg) hsame.rxAcc).trans hdecode)

/-! ### The turns of a cycle -/

theorem selectedStep_txf {s u : State} (hrst : s.rst = false) (h : selectedStep s .txf (tick s) u) :
    u = tick s ∨ ∃ i, TxfStep i (tick s) u := by
  obtain rfl | ⟨i, hi, hexec⟩ := h
  · exact .inl rfl
  · exact (exec_next hexec).imp_right fun hmeaning =>
      ⟨i, meaning_txfStep (instrFormat_of_turnInstr_txf hrst hi) hmeaning⟩

theorem selectedStep_host_sameRxfWord {s u v : State} {who : BitVec 2} (hrst : s.rst = false)
    (h : selectedStep s (.host who) u v) : SameRxfWord u v := by
  obtain rfl | ⟨i, hi, hexec⟩ := h
  · exact .refl _
  · obtain rfl | hmeaning := exec_next hexec
    · exact .refl _
    · exact (meaning_hostStep (instrFormat_of_turnInstr_host hrst hi) hmeaning).sameRxfWord

/-- Outside reset, each turn of a cycle, fetched and decoded afresh, runs what the old state selects for it. -/
theorem runInstrs_eq_runTurns_cycle {s : State} (hrst : s.rst = false) :
    runInstrs ((cycleTurns s).filterMap (turnInstr · s)) (tick s) =
      runTurns ((cycleTurns s).filter fun t => (turnInstr t s).isSome) (tick s) := by
  refine runInstrs_eq_runTurns_cons
    (fun i hi => perform_of_turnInstr rfl ((turnInstr_tick _ _).trans hi)) fun u hu => ?_
  have htxf := selectedStep_txf hrst hu
  refine runInstrs_eq_runTurns_cons (fun i hi => ?_) fun v hv => ?_
  · obtain rfl | ⟨j, hstep⟩ := htxf
    · exact perform_of_turnInstr rfl ((turnInstr_tick _ _).trans hi)
    · have hframe := hstep.frame
      exact perform_host_of_old hrst (by rw [hframe]; rfl) (by rw [hframe]; rfl) (by rw [hframe]; rfl)
        hstep.fireVector hi
  · have htick : SameRxfWord s (tick s) := by constructor <;> rfl
    have hword : SameRxfWord s u := by
      obtain rfl | ⟨j, hstep⟩ := htxf
      · exact htick
      · exact htick.trans hstep.sameRxfWord
    exact runInstrs_eq_runTurns_cons
      (fun i hi => perform_rxf_of_old hrst (hword.trans (selectedStep_host_sameRxfWord hrst hv)) hi)
      fun w _ => rfl

/-- While `rst = 1` a cycle is RXF's turn, which is reset (R220). -/
theorem perform_rxf_of_rst {s : State} (hrst : s.rst = true) : perform .rxf s = exec .init s :=
  perform_of_decode (code := .rst 1) rfl (by simp [fetchCode, hrst]) rfl

/-! ## Right after reset (R220, R221) -/

theorem txReady_of_room {s : State} (hrun : running s = true)
    (hroom : full s.cfg.txqDepth s.txq = false) : txReady s = true := by
  simp [txReady, hrun, hroom]

end Sys2Proof.Machine

open Sys2Proof Sys2Proof.Machine

/-- Settles O59: each step past startup moves units between the counts, and a signal set twice loses one of two. -/
theorem theCreditTotalNeverGrowsAfterStartup :
    Obligations.TheCreditTotalNeverGrowsAfterStartup := by
  intro l l' side t hinv hturn ha hb hstep
  obtain ⟨-, hpastA⟩ := startupDone_iff.1 ha
  obtain ⟨-, hpastB⟩ := startupDone_iff.1 hb
  exact linkStep_creditsKept hinv hturn hpastA hpastB hstep

/-- Settles O55: TXF's step keeps the channels that fire, neither it nor the host's touches what RXF's word reads, and
a cycle in reset is one reset. -/
theorem aCycleIsOneInterleaving : Obligations.ACycleIsOneInterleaving := by
  intro s
  cases hrst : s.rst with
  | false =>
    simp only [cycle, cycleInstrs, cycleSchedule, hrst, Bool.false_eq_true, if_false]
    exact runInstrs_eq_runTurns_cycle hrst
  | true =>
    simp only [cycle, cycleInstrs, cycleSchedule, hrst, if_true, runInstrs, runTurns]
    rw [perform_rxf_of_rst (s := tick s) hrst]

/-- Settles O1: `State.reset` writes each of these values. -/
theorem resetStateHoldsTheResetValues : Obligations.ResetStateHoldsTheResetValues :=
  ⟨rfl, rfl, rfl, rfl, rfl, rfl, rfl, rfl, rfl, rfl, rfl, rfl, rfl, rfl, rfl, rfl, rfl, rfl⟩

/-- Settles O2: both queues are empty, so TXQ has room for every packet presented and RXQ has none to show. -/
theorem outputsInTheFirstCycleAfterReset : Obligations.OutputsInTheFirstCycleAfterReset := by
  refine ⟨rfl, rfl, rfl, fun t => ?_, rfl, rfl, rfl, rfl⟩
  exact txReady_of_room (s := { State.reset with txChan := t }) rfl rfl

/-- Settles O3: the buffers have their lengths, the queues are empty, and TXF is about to send its first CTRL frame. -/
theorem resetStateMeetsTheInvariant : Obligations.ResetStateMeetsTheInvariant := reset_endInv

end
